-- ==== Sys2Proof/Word.lean ====
section
/-! DEFINITION. The two word types of the core (R5, R7): bytes and 16-bit words, both unsigned.
Everything a test could show wrong about them (byte order, sign extension, bit fields) stands in Decode.lean and
under Machine/. -/

namespace Sys2Proof

/-- An 8-bit register, memory byte or opcode byte (R5). -/
abbrev Byte := BitVec 8

/-- A 16-bit register, register pair or address (R5, R70). -/
abbrev Word := BitVec 16

end Sys2Proof
end

