-- ==== Sys2Proof/Config.lean ====
section
/-! DEFINITION. What an implementation fixes: the sizes of the buffers (R5, R71) and what an unlisted byte of a buffer
reads as. The three parameters of R6 (`BIOS_IMAGE`, `ROM_IMAGE`, `RAM_INIT`) are arguments of `State.construct` and
`State.loadRom` in Machine/HostOps.lean, not constants. The spec leaves no value open inside a run
(93_implementation_defined.md: "No behaviour in this core has the treatment `any value`"), so there is no free value. -/

namespace Sys2Proof.Config

/-- BIOS: 256 bytes (R71). -/
abbrev biosSize : Nat := 256

/-- ROM: 32,768 bytes (R71). -/
abbrev romSize : Nat := 32768

/-- VRAM, external RAM and working RAM: 8,192 bytes each (R71). -/
abbrev ramSize : Nat := 8192

/-- OAM: 160 bytes (R71). -/
abbrev oamSize : Nat := 160

/-- I/O: 128 bytes (R71). -/
abbrev ioSize : Nat := 128

/-- Zero page: 127 bytes (R71). -/
abbrev zpSize : Nat := 127

/-- What a byte of a buffer that its list does not name reads as.
DESIGN CHOICE (log entry 1), unsafe where it stands for `RAM_INIT` in `State.reset`: the spec leaves `RAM_INIT` open and its
test vectors take it as all zero (R6, D7). For a loaded ROM or BIOS image it chooses nothing: an image lists its
non-zero bytes. -/
def unlistedByte : Byte := 0

end Sys2Proof.Config
end

