-- ==== Sys2Proof/WellFormed.lean ====
section
/-! DEFINITION. Which terms of `Instr` stand for an instruction of a program. The operand types already bound every operand, so
one check is left: the CB prefix is a row of the table but "is not an instruction" (R133). -/

namespace Sys2Proof

/-- R133: "The byte 0xCB in the primary table is not an instruction." Its byte and the byte after it are one instruction of the
CB table, so the prefix's own constructor is the one ill-formed term. The eleven illegal bytes are well formed: each is a row
that decodes (to a fault, R135). -/
def Instr.wellFormed : Instr → Bool
  | .cb_prefix _ => false
  | _ => true

end Sys2Proof
end

