-- ==== Sys2Proof/Decode.lean ====
section
/-! DEFINITION. Bytes to instructions and back, by the fields of R121: `Form` is what the fields say, and `Form.instr` names the
row of the opcode table. Decoding three bytes is total (R136: every table entry is an instruction, the prefix or an illegal
byte); decoding a list of bytes rejects, by name, only a list that ends inside the instruction. -/

namespace Sys2Proof

/-! ### The rows of each form: from field values to the constructor of the row -/

/-- The rows of `LD rr,d16` (R360). -/
def Instr.mkLdPairD16 (o : Pair) (x : Word) : Instr :=
  match o with
  | .bc => .ld_BC_d16 x
  | .de => .ld_DE_d16 x
  | .hl => .ld_HL_d16 x
  | .sp => .ld_SP_d16 x

/-- The rows of `LD (rr),A` (R348, R349). -/
def Instr.mkLdPtrA (o : PtrPair) : Instr :=
  match o with
  | .bc => .ld_mBC_A
  | .de => .ld_mDE_A

/-- The rows of `INC rr` (R261). -/
def Instr.mkInc16 (o : Pair) : Instr :=
  match o with
  | .bc => .inc_BC
  | .de => .inc_DE
  | .hl => .inc_HL
  | .sp => .inc_SP

/-- The rows of `INC r` and `INC (HL)` (R225, R226). -/
def Instr.mkInc8 (o : Opnd8) : Instr :=
  match o with
  | .reg .b => .inc_B
  | .reg .c => .inc_C
  | .reg .d => .inc_D
  | .reg .e => .inc_E
  | .reg .h => .inc_H
  | .reg .l => .inc_L
  | .mHL => .inc_mHL
  | .reg .a => .inc_A

/-- The rows of `DEC r` and `DEC (HL)` (R227, R228). -/
def Instr.mkDec8 (o : Opnd8) : Instr :=
  match o with
  | .reg .b => .dec_B
  | .reg .c => .dec_C
  | .reg .d => .dec_D
  | .reg .e => .dec_E
  | .reg .h => .dec_H
  | .reg .l => .dec_L
  | .mHL => .dec_mHL
  | .reg .a => .dec_A

/-- The rows of `LD r,d8` (R342). -/
def Instr.mkLdRD8 (o : Reg8) (x : Byte) : Instr :=
  match o with
  | .b => .ld_B_d8 x
  | .c => .ld_C_d8 x
  | .d => .ld_D_d8 x
  | .e => .ld_E_d8 x
  | .h => .ld_H_d8 x
  | .l => .ld_L_d8 x
  | .a => .ld_A_d8 x

/-- The rows of `ADD HL,rr` (R263). -/
def Instr.mkAddHL (o : Pair) : Instr :=
  match o with
  | .bc => .add_HL_BC
  | .de => .add_HL_DE
  | .hl => .add_HL_HL
  | .sp => .add_HL_SP

/-- The rows of `LD A,(rr)` (R346, R347). -/
def Instr.mkLdAPtr (o : PtrPair) : Instr :=
  match o with
  | .bc => .ld_A_mBC
  | .de => .ld_A_mDE

/-- The rows of `DEC rr` (R262). -/
def Instr.mkDec16 (o : Pair) : Instr :=
  match o with
  | .bc => .dec_BC
  | .de => .dec_DE
  | .hl => .dec_HL
  | .sp => .dec_SP

/-- The rows of `JR cc,e8` (R285). -/
def Instr.mkJrCC (o : Cond) (x : Byte) : Instr :=
  match o with
  | .nz => .jr_NZ_e8 x
  | .z => .jr_Z_e8 x
  | .nc => .jr_NC_e8 x
  | .c => .jr_C_e8 x

/-- The rows of `LD r,r'` (R341). -/
def Instr.mkLdRR (p : Reg8) (o : Reg8) : Instr :=
  match p, o with
  | .b, .b => .ld_B_B
  | .b, .c => .ld_B_C
  | .b, .d => .ld_B_D
  | .b, .e => .ld_B_E
  | .b, .h => .ld_B_H
  | .b, .l => .ld_B_L
  | .b, .a => .ld_B_A
  | .c, .b => .ld_C_B
  | .c, .c => .ld_C_C
  | .c, .d => .ld_C_D
  | .c, .e => .ld_C_E
  | .c, .h => .ld_C_H
  | .c, .l => .ld_C_L
  | .c, .a => .ld_C_A
  | .d, .b => .ld_D_B
  | .d, .c => .ld_D_C
  | .d, .d => .ld_D_D
  | .d, .e => .ld_D_E
  | .d, .h => .ld_D_H
  | .d, .l => .ld_D_L
  | .d, .a => .ld_D_A
  | .e, .b => .ld_E_B
  | .e, .c => .ld_E_C
  | .e, .d => .ld_E_D
  | .e, .e => .ld_E_E
  | .e, .h => .ld_E_H
  | .e, .l => .ld_E_L
  | .e, .a => .ld_E_A
  | .h, .b => .ld_H_B
  | .h, .c => .ld_H_C
  | .h, .d => .ld_H_D
  | .h, .e => .ld_H_E
  | .h, .h => .ld_H_H
  | .h, .l => .ld_H_L
  | .h, .a => .ld_H_A
  | .l, .b => .ld_L_B
  | .l, .c => .ld_L_C
  | .l, .d => .ld_L_D
  | .l, .e => .ld_L_E
  | .l, .h => .ld_L_H
  | .l, .l => .ld_L_L
  | .l, .a => .ld_L_A
  | .a, .b => .ld_A_B
  | .a, .c => .ld_A_C
  | .a, .d => .ld_A_D
  | .a, .e => .ld_A_E
  | .a, .h => .ld_A_H
  | .a, .l => .ld_A_L
  | .a, .a => .ld_A_A

/-- The rows of `LD r,(HL)` (R343). -/
def Instr.mkLdRM (o : Reg8) : Instr :=
  match o with
  | .b => .ld_B_mHL
  | .c => .ld_C_mHL
  | .d => .ld_D_mHL
  | .e => .ld_E_mHL
  | .h => .ld_H_mHL
  | .l => .ld_L_mHL
  | .a => .ld_A_mHL

/-- The rows of `LD (HL),r` (R344). -/
def Instr.mkLdMR (o : Reg8) : Instr :=
  match o with
  | .b => .ld_mHL_B
  | .c => .ld_mHL_C
  | .d => .ld_mHL_D
  | .e => .ld_mHL_E
  | .h => .ld_mHL_H
  | .l => .ld_mHL_L
  | .a => .ld_mHL_A

/-- The rows of `alu r` and `alu (HL)` (R201 to R223). -/
def Instr.mkAlu (p : AluOp) (o : Opnd8) : Instr :=
  match p, o with
  | .add, .reg .b => .add_A_B
  | .add, .reg .c => .add_A_C
  | .add, .reg .d => .add_A_D
  | .add, .reg .e => .add_A_E
  | .add, .reg .h => .add_A_H
  | .add, .reg .l => .add_A_L
  | .add, .mHL => .add_A_mHL
  | .add, .reg .a => .add_A_A
  | .adc, .reg .b => .adc_A_B
  | .adc, .reg .c => .adc_A_C
  | .adc, .reg .d => .adc_A_D
  | .adc, .reg .e => .adc_A_E
  | .adc, .reg .h => .adc_A_H
  | .adc, .reg .l => .adc_A_L
  | .adc, .mHL => .adc_A_mHL
  | .adc, .reg .a => .adc_A_A
  | .sub, .reg .b => .sub_B
  | .sub, .reg .c => .sub_C
  | .sub, .reg .d => .sub_D
  | .sub, .reg .e => .sub_E
  | .sub, .reg .h => .sub_H
  | .sub, .reg .l => .sub_L
  | .sub, .mHL => .sub_mHL
  | .sub, .reg .a => .sub_A
  | .sbc, .reg .b => .sbc_A_B
  | .sbc, .reg .c => .sbc_A_C
  | .sbc, .reg .d => .sbc_A_D
  | .sbc, .reg .e => .sbc_A_E
  | .sbc, .reg .h => .sbc_A_H
  | .sbc, .reg .l => .sbc_A_L
  | .sbc, .mHL => .sbc_A_mHL
  | .sbc, .reg .a => .sbc_A_A
  | .and, .reg .b => .and_B
  | .and, .reg .c => .and_C
  | .and, .reg .d => .and_D
  | .and, .reg .e => .and_E
  | .and, .reg .h => .and_H
  | .and, .reg .l => .and_L
  | .and, .mHL => .and_mHL
  | .and, .reg .a => .and_A
  | .xor, .reg .b => .xor_B
  | .xor, .reg .c => .xor_C
  | .xor, .reg .d => .xor_D
  | .xor, .reg .e => .xor_E
  | .xor, .reg .h => .xor_H
  | .xor, .reg .l => .xor_L
  | .xor, .mHL => .xor_mHL
  | .xor, .reg .a => .xor_A
  | .or, .reg .b => .or_B
  | .or, .reg .c => .or_C
  | .or, .reg .d => .or_D
  | .or, .reg .e => .or_E
  | .or, .reg .h => .or_H
  | .or, .reg .l => .or_L
  | .or, .mHL => .or_mHL
  | .or, .reg .a => .or_A
  | .cp, .reg .b => .cp_B
  | .cp, .reg .c => .cp_C
  | .cp, .reg .d => .cp_D
  | .cp, .reg .e => .cp_E
  | .cp, .reg .h => .cp_H
  | .cp, .reg .l => .cp_L
  | .cp, .mHL => .cp_mHL
  | .cp, .reg .a => .cp_A

/-- The rows of `RET cc` (R289). -/
def Instr.mkRetCC (o : Cond) : Instr :=
  match o with
  | .nz => .ret_NZ
  | .z => .ret_Z
  | .nc => .ret_NC
  | .c => .ret_C

/-- The rows of `POP rr` (R301). -/
def Instr.mkPop (o : StackPair) : Instr :=
  match o with
  | .bc => .pop_BC
  | .de => .pop_DE
  | .hl => .pop_HL
  | .af => .pop_AF

/-- The rows of `JP cc,a16` (R282). -/
def Instr.mkJpCC (o : Cond) (x : Word) : Instr :=
  match o with
  | .nz => .jp_NZ_a16 x
  | .z => .jp_Z_a16 x
  | .nc => .jp_NC_a16 x
  | .c => .jp_C_a16 x

/-- The rows of `CALL cc,a16` (R287). -/
def Instr.mkCallCC (o : Cond) (x : Word) : Instr :=
  match o with
  | .nz => .call_NZ_a16 x
  | .z => .call_Z_a16 x
  | .nc => .call_NC_a16 x
  | .c => .call_C_a16 x

/-- The rows of `PUSH rr` (R300). -/
def Instr.mkPush (o : StackPair) : Instr :=
  match o with
  | .bc => .push_BC
  | .de => .push_DE
  | .hl => .push_HL
  | .af => .push_AF

/-- The rows of `alu d8` (R203 to R224). -/
def Instr.mkAluD8 (o : AluOp) (x : Byte) : Instr :=
  match o with
  | .add => .add_A_d8 x
  | .adc => .adc_A_d8 x
  | .sub => .sub_d8 x
  | .sbc => .sbc_A_d8 x
  | .and => .and_d8 x
  | .xor => .xor_d8 x
  | .or => .or_d8 x
  | .cp => .cp_d8 x

/-- The rows of `RST t` (R298). -/
def Instr.mkRst (o : Idx8) : Instr :=
  match o with
  | .i0 => .rst_00H
  | .i1 => .rst_08H
  | .i2 => .rst_10H
  | .i3 => .rst_18H
  | .i4 => .rst_20H
  | .i5 => .rst_28H
  | .i6 => .rst_30H
  | .i7 => .rst_38H

/-- The rows of the illegal bytes (R135). -/
def Instr.mkIllegal (o : IllegalByte) : Instr :=
  match o with
  | .xD3 => .illegal_D3
  | .xDB => .illegal_DB
  | .xDD => .illegal_DD
  | .xE3 => .illegal_E3
  | .xE4 => .illegal_E4
  | .xEB => .illegal_EB
  | .xEC => .illegal_EC
  | .xED => .illegal_ED
  | .xF4 => .illegal_F4
  | .xFC => .illegal_FC
  | .xFD => .illegal_FD

/-- The rows of the CB rotates and shifts (R401 to R408). -/
def Instr.mkShift (p : ShiftOp) (o : Opnd8) : Instr :=
  match p, o with
  | .rlc, .reg .b => .rlc_B
  | .rlc, .reg .c => .rlc_C
  | .rlc, .reg .d => .rlc_D
  | .rlc, .reg .e => .rlc_E
  | .rlc, .reg .h => .rlc_H
  | .rlc, .reg .l => .rlc_L
  | .rlc, .mHL => .rlc_mHL
  | .rlc, .reg .a => .rlc_A
  | .rrc, .reg .b => .rrc_B
  | .rrc, .reg .c => .rrc_C
  | .rrc, .reg .d => .rrc_D
  | .rrc, .reg .e => .rrc_E
  | .rrc, .reg .h => .rrc_H
  | .rrc, .reg .l => .rrc_L
  | .rrc, .mHL => .rrc_mHL
  | .rrc, .reg .a => .rrc_A
  | .rl, .reg .b => .rl_B
  | .rl, .reg .c => .rl_C
  | .rl, .reg .d => .rl_D
  | .rl, .reg .e => .rl_E
  | .rl, .reg .h => .rl_H
  | .rl, .reg .l => .rl_L
  | .rl, .mHL => .rl_mHL
  | .rl, .reg .a => .rl_A
  | .rr, .reg .b => .rr_B
  | .rr, .reg .c => .rr_C
  | .rr, .reg .d => .rr_D
  | .rr, .reg .e => .rr_E
  | .rr, .reg .h => .rr_H
  | .rr, .reg .l => .rr_L
  | .rr, .mHL => .rr_mHL
  | .rr, .reg .a => .rr_A
  | .sla, .reg .b => .sla_B
  | .sla, .reg .c => .sla_C
  | .sla, .reg .d => .sla_D
  | .sla, .reg .e => .sla_E
  | .sla, .reg .h => .sla_H
  | .sla, .reg .l => .sla_L
  | .sla, .mHL => .sla_mHL
  | .sla, .reg .a => .sla_A
  | .sra, .reg .b => .sra_B
  | .sra, .reg .c => .sra_C
  | .sra, .reg .d => .sra_D
  | .sra, .reg .e => .sra_E
  | .sra, .reg .h => .sra_H
  | .sra, .reg .l => .sra_L
  | .sra, .mHL => .sra_mHL
  | .sra, .reg .a => .sra_A
  | .swap, .reg .b => .swap_B
  | .swap, .reg .c => .swap_C
  | .swap, .reg .d => .swap_D
  | .swap, .reg .e => .swap_E
  | .swap, .reg .h => .swap_H
  | .swap, .reg .l => .swap_L
  | .swap, .mHL => .swap_mHL
  | .swap, .reg .a => .swap_A
  | .srl, .reg .b => .srl_B
  | .srl, .reg .c => .srl_C
  | .srl, .reg .d => .srl_D
  | .srl, .reg .e => .srl_E
  | .srl, .reg .h => .srl_H
  | .srl, .reg .l => .srl_L
  | .srl, .mHL => .srl_mHL
  | .srl, .reg .a => .srl_A

/-- The rows of `BIT b,r` (R409). -/
def Instr.mkBit (p : Idx8) (o : Opnd8) : Instr :=
  match p, o with
  | .i0, .reg .b => .bit_0_B
  | .i0, .reg .c => .bit_0_C
  | .i0, .reg .d => .bit_0_D
  | .i0, .reg .e => .bit_0_E
  | .i0, .reg .h => .bit_0_H
  | .i0, .reg .l => .bit_0_L
  | .i0, .mHL => .bit_0_mHL
  | .i0, .reg .a => .bit_0_A
  | .i1, .reg .b => .bit_1_B
  | .i1, .reg .c => .bit_1_C
  | .i1, .reg .d => .bit_1_D
  | .i1, .reg .e => .bit_1_E
  | .i1, .reg .h => .bit_1_H
  | .i1, .reg .l => .bit_1_L
  | .i1, .mHL => .bit_1_mHL
  | .i1, .reg .a => .bit_1_A
  | .i2, .reg .b => .bit_2_B
  | .i2, .reg .c => .bit_2_C
  | .i2, .reg .d => .bit_2_D
  | .i2, .reg .e => .bit_2_E
  | .i2, .reg .h => .bit_2_H
  | .i2, .reg .l => .bit_2_L
  | .i2, .mHL => .bit_2_mHL
  | .i2, .reg .a => .bit_2_A
  | .i3, .reg .b => .bit_3_B
  | .i3, .reg .c => .bit_3_C
  | .i3, .reg .d => .bit_3_D
  | .i3, .reg .e => .bit_3_E
  | .i3, .reg .h => .bit_3_H
  | .i3, .reg .l => .bit_3_L
  | .i3, .mHL => .bit_3_mHL
  | .i3, .reg .a => .bit_3_A
  | .i4, .reg .b => .bit_4_B
  | .i4, .reg .c => .bit_4_C
  | .i4, .reg .d => .bit_4_D
  | .i4, .reg .e => .bit_4_E
  | .i4, .reg .h => .bit_4_H
  | .i4, .reg .l => .bit_4_L
  | .i4, .mHL => .bit_4_mHL
  | .i4, .reg .a => .bit_4_A
  | .i5, .reg .b => .bit_5_B
  | .i5, .reg .c => .bit_5_C
  | .i5, .reg .d => .bit_5_D
  | .i5, .reg .e => .bit_5_E
  | .i5, .reg .h => .bit_5_H
  | .i5, .reg .l => .bit_5_L
  | .i5, .mHL => .bit_5_mHL
  | .i5, .reg .a => .bit_5_A
  | .i6, .reg .b => .bit_6_B
  | .i6, .reg .c => .bit_6_C
  | .i6, .reg .d => .bit_6_D
  | .i6, .reg .e => .bit_6_E
  | .i6, .reg .h => .bit_6_H
  | .i6, .reg .l => .bit_6_L
  | .i6, .mHL => .bit_6_mHL
  | .i6, .reg .a => .bit_6_A
  | .i7, .reg .b => .bit_7_B
  | .i7, .reg .c => .bit_7_C
  | .i7, .reg .d => .bit_7_D
  | .i7, .reg .e => .bit_7_E
  | .i7, .reg .h => .bit_7_H
  | .i7, .reg .l => .bit_7_L
  | .i7, .mHL => .bit_7_mHL
  | .i7, .reg .a => .bit_7_A

/-- The rows of `RES b,r` (R410). -/
def Instr.mkRes (p : Idx8) (o : Opnd8) : Instr :=
  match p, o with
  | .i0, .reg .b => .res_0_B
  | .i0, .reg .c => .res_0_C
  | .i0, .reg .d => .res_0_D
  | .i0, .reg .e => .res_0_E
  | .i0, .reg .h => .res_0_H
  | .i0, .reg .l => .res_0_L
  | .i0, .mHL => .res_0_mHL
  | .i0, .reg .a => .res_0_A
  | .i1, .reg .b => .res_1_B
  | .i1, .reg .c => .res_1_C
  | .i1, .reg .d => .res_1_D
  | .i1, .reg .e => .res_1_E
  | .i1, .reg .h => .res_1_H
  | .i1, .reg .l => .res_1_L
  | .i1, .mHL => .res_1_mHL
  | .i1, .reg .a => .res_1_A
  | .i2, .reg .b => .res_2_B
  | .i2, .reg .c => .res_2_C
  | .i2, .reg .d => .res_2_D
  | .i2, .reg .e => .res_2_E
  | .i2, .reg .h => .res_2_H
  | .i2, .reg .l => .res_2_L
  | .i2, .mHL => .res_2_mHL
  | .i2, .reg .a => .res_2_A
  | .i3, .reg .b => .res_3_B
  | .i3, .reg .c => .res_3_C
  | .i3, .reg .d => .res_3_D
  | .i3, .reg .e => .res_3_E
  | .i3, .reg .h => .res_3_H
  | .i3, .reg .l => .res_3_L
  | .i3, .mHL => .res_3_mHL
  | .i3, .reg .a => .res_3_A
  | .i4, .reg .b => .res_4_B
  | .i4, .reg .c => .res_4_C
  | .i4, .reg .d => .res_4_D
  | .i4, .reg .e => .res_4_E
  | .i4, .reg .h => .res_4_H
  | .i4, .reg .l => .res_4_L
  | .i4, .mHL => .res_4_mHL
  | .i4, .reg .a => .res_4_A
  | .i5, .reg .b => .res_5_B
  | .i5, .reg .c => .res_5_C
  | .i5, .reg .d => .res_5_D
  | .i5, .reg .e => .res_5_E
  | .i5, .reg .h => .res_5_H
  | .i5, .reg .l => .res_5_L
  | .i5, .mHL => .res_5_mHL
  | .i5, .reg .a => .res_5_A
  | .i6, .reg .b => .res_6_B
  | .i6, .reg .c => .res_6_C
  | .i6, .reg .d => .res_6_D
  | .i6, .reg .e => .res_6_E
  | .i6, .reg .h => .res_6_H
  | .i6, .reg .l => .res_6_L
  | .i6, .mHL => .res_6_mHL
  | .i6, .reg .a => .res_6_A
  | .i7, .reg .b => .res_7_B
  | .i7, .reg .c => .res_7_C
  | .i7, .reg .d => .res_7_D
  | .i7, .reg .e => .res_7_E
  | .i7, .reg .h => .res_7_H
  | .i7, .reg .l => .res_7_L
  | .i7, .mHL => .res_7_mHL
  | .i7, .reg .a => .res_7_A

/-- The rows of `SET b,r` (R411). -/
def Instr.mkSet (p : Idx8) (o : Opnd8) : Instr :=
  match p, o with
  | .i0, .reg .b => .set_0_B
  | .i0, .reg .c => .set_0_C
  | .i0, .reg .d => .set_0_D
  | .i0, .reg .e => .set_0_E
  | .i0, .reg .h => .set_0_H
  | .i0, .reg .l => .set_0_L
  | .i0, .mHL => .set_0_mHL
  | .i0, .reg .a => .set_0_A
  | .i1, .reg .b => .set_1_B
  | .i1, .reg .c => .set_1_C
  | .i1, .reg .d => .set_1_D
  | .i1, .reg .e => .set_1_E
  | .i1, .reg .h => .set_1_H
  | .i1, .reg .l => .set_1_L
  | .i1, .mHL => .set_1_mHL
  | .i1, .reg .a => .set_1_A
  | .i2, .reg .b => .set_2_B
  | .i2, .reg .c => .set_2_C
  | .i2, .reg .d => .set_2_D
  | .i2, .reg .e => .set_2_E
  | .i2, .reg .h => .set_2_H
  | .i2, .reg .l => .set_2_L
  | .i2, .mHL => .set_2_mHL
  | .i2, .reg .a => .set_2_A
  | .i3, .reg .b => .set_3_B
  | .i3, .reg .c => .set_3_C
  | .i3, .reg .d => .set_3_D
  | .i3, .reg .e => .set_3_E
  | .i3, .reg .h => .set_3_H
  | .i3, .reg .l => .set_3_L
  | .i3, .mHL => .set_3_mHL
  | .i3, .reg .a => .set_3_A
  | .i4, .reg .b => .set_4_B
  | .i4, .reg .c => .set_4_C
  | .i4, .reg .d => .set_4_D
  | .i4, .reg .e => .set_4_E
  | .i4, .reg .h => .set_4_H
  | .i4, .reg .l => .set_4_L
  | .i4, .mHL => .set_4_mHL
  | .i4, .reg .a => .set_4_A
  | .i5, .reg .b => .set_5_B
  | .i5, .reg .c => .set_5_C
  | .i5, .reg .d => .set_5_D
  | .i5, .reg .e => .set_5_E
  | .i5, .reg .h => .set_5_H
  | .i5, .reg .l => .set_5_L
  | .i5, .mHL => .set_5_mHL
  | .i5, .reg .a => .set_5_A
  | .i6, .reg .b => .set_6_B
  | .i6, .reg .c => .set_6_C
  | .i6, .reg .d => .set_6_D
  | .i6, .reg .e => .set_6_E
  | .i6, .reg .h => .set_6_H
  | .i6, .reg .l => .set_6_L
  | .i6, .mHL => .set_6_mHL
  | .i6, .reg .a => .set_6_A
  | .i7, .reg .b => .set_7_B
  | .i7, .reg .c => .set_7_C
  | .i7, .reg .d => .set_7_D
  | .i7, .reg .e => .set_7_E
  | .i7, .reg .h => .set_7_H
  | .i7, .reg .l => .set_7_L
  | .i7, .mHL => .set_7_mHL
  | .i7, .reg .a => .set_7_A

/-- The row of spec/opcode_table.json that a form is (R140, R141). -/
def Form.instr : Form → Instr
  | .nop => .nop
  | .ldPairD16 o x => .mkLdPairD16 o x
  | .ldPtrA o => .mkLdPtrA o
  | .inc16 o => .mkInc16 o
  | .inc8 o => .mkInc8 o
  | .dec8 o => .mkDec8 o
  | .ldRD8 o x => .mkLdRD8 o x
  | .rlca => .rlca
  | .ldM16SP x => .ld_ma16_SP x
  | .addHL o => .mkAddHL o
  | .ldAPtr o => .mkLdAPtr o
  | .dec16 o => .mkDec16 o
  | .rrca => .rrca
  | .stop x => .stop x
  | .rla => .rla
  | .jr x => .jr_e8 x
  | .rra => .rra
  | .jrCC o x => .mkJrCC o x
  | .ldMIncA => .ld_mHLinc_A
  | .daa => .daa
  | .ldAMInc => .ld_A_mHLinc
  | .cpl => .cpl
  | .ldMDecA => .ld_mHLdec_A
  | .ldMD8 x => .ld_mHL_d8 x
  | .scf => .scf
  | .ldAMDec => .ld_A_mHLdec
  | .ccf => .ccf
  | .ldRR p o => .mkLdRR p o
  | .ldRM o => .mkLdRM o
  | .ldMR o => .mkLdMR o
  | .halt => .halt
  | .alu p o => .mkAlu p o
  | .retCC o => .mkRetCC o
  | .pop o => .mkPop o
  | .jpCC o x => .mkJpCC o x
  | .jp x => .jp_a16 x
  | .callCC o x => .mkCallCC o x
  | .push o => .mkPush o
  | .aluD8 o x => .mkAluD8 o x
  | .rst o => .mkRst o
  | .ret => .ret
  | .cbPrefix x => .cb_prefix x
  | .call x => .call_a16 x
  | .illegal o => .mkIllegal o
  | .reti => .reti
  | .ldhMA x => .ldh_ma8_A x
  | .ldMCA => .ld_mC_A
  | .addSP x => .add_SP_e8 x
  | .jpHL => .jp_HL
  | .ldM16A x => .ld_ma16_A x
  | .ldhAM x => .ldh_A_ma8 x
  | .ldAMC => .ld_A_mC
  | .di => .di
  | .ldHLSP x => .ld_HL_SPe8 x
  | .ldSPHL => .ld_SP_HL
  | .ldAM16 x => .ld_A_ma16 x
  | .ei => .ei
  | .shift p o => .mkShift p o
  | .bit p o => .mkBit p o
  | .res p o => .mkRes p o
  | .set p o => .mkSet p o

/-- The field values of a row of the table: the inverse of `Form.instr` (spec/opcode_table.json's `source_fields`). -/
def Instr.form : Instr → Form
  | .nop => .nop
  | .ld_BC_d16 x => .ldPairD16 .bc x
  | .ld_mBC_A => .ldPtrA .bc
  | .inc_BC => .inc16 .bc
  | .inc_B => .inc8 (.reg .b)
  | .dec_B => .dec8 (.reg .b)
  | .ld_B_d8 x => .ldRD8 .b x
  | .rlca => .rlca
  | .ld_ma16_SP x => .ldM16SP x
  | .add_HL_BC => .addHL .bc
  | .ld_A_mBC => .ldAPtr .bc
  | .dec_BC => .dec16 .bc
  | .inc_C => .inc8 (.reg .c)
  | .dec_C => .dec8 (.reg .c)
  | .ld_C_d8 x => .ldRD8 .c x
  | .rrca => .rrca
  | .stop x => .stop x
  | .ld_DE_d16 x => .ldPairD16 .de x
  | .ld_mDE_A => .ldPtrA .de
  | .inc_DE => .inc16 .de
  | .inc_D => .inc8 (.reg .d)
  | .dec_D => .dec8 (.reg .d)
  | .ld_D_d8 x => .ldRD8 .d x
  | .rla => .rla
  | .jr_e8 x => .jr x
  | .add_HL_DE => .addHL .de
  | .ld_A_mDE => .ldAPtr .de
  | .dec_DE => .dec16 .de
  | .inc_E => .inc8 (.reg .e)
  | .dec_E => .dec8 (.reg .e)
  | .ld_E_d8 x => .ldRD8 .e x
  | .rra => .rra
  | .jr_NZ_e8 x => .jrCC .nz x
  | .ld_HL_d16 x => .ldPairD16 .hl x
  | .ld_mHLinc_A => .ldMIncA
  | .inc_HL => .inc16 .hl
  | .inc_H => .inc8 (.reg .h)
  | .dec_H => .dec8 (.reg .h)
  | .ld_H_d8 x => .ldRD8 .h x
  | .daa => .daa
  | .jr_Z_e8 x => .jrCC .z x
  | .add_HL_HL => .addHL .hl
  | .ld_A_mHLinc => .ldAMInc
  | .dec_HL => .dec16 .hl
  | .inc_L => .inc8 (.reg .l)
  | .dec_L => .dec8 (.reg .l)
  | .ld_L_d8 x => .ldRD8 .l x
  | .cpl => .cpl
  | .jr_NC_e8 x => .jrCC .nc x
  | .ld_SP_d16 x => .ldPairD16 .sp x
  | .ld_mHLdec_A => .ldMDecA
  | .inc_SP => .inc16 .sp
  | .inc_mHL => .inc8 .mHL
  | .dec_mHL => .dec8 .mHL
  | .ld_mHL_d8 x => .ldMD8 x
  | .scf => .scf
  | .jr_C_e8 x => .jrCC .c x
  | .add_HL_SP => .addHL .sp
  | .ld_A_mHLdec => .ldAMDec
  | .dec_SP => .dec16 .sp
  | .inc_A => .inc8 (.reg .a)
  | .dec_A => .dec8 (.reg .a)
  | .ld_A_d8 x => .ldRD8 .a x
  | .ccf => .ccf
  | .ld_B_B => .ldRR .b .b
  | .ld_B_C => .ldRR .b .c
  | .ld_B_D => .ldRR .b .d
  | .ld_B_E => .ldRR .b .e
  | .ld_B_H => .ldRR .b .h
  | .ld_B_L => .ldRR .b .l
  | .ld_B_mHL => .ldRM .b
  | .ld_B_A => .ldRR .b .a
  | .ld_C_B => .ldRR .c .b
  | .ld_C_C => .ldRR .c .c
  | .ld_C_D => .ldRR .c .d
  | .ld_C_E => .ldRR .c .e
  | .ld_C_H => .ldRR .c .h
  | .ld_C_L => .ldRR .c .l
  | .ld_C_mHL => .ldRM .c
  | .ld_C_A => .ldRR .c .a
  | .ld_D_B => .ldRR .d .b
  | .ld_D_C => .ldRR .d .c
  | .ld_D_D => .ldRR .d .d
  | .ld_D_E => .ldRR .d .e
  | .ld_D_H => .ldRR .d .h
  | .ld_D_L => .ldRR .d .l
  | .ld_D_mHL => .ldRM .d
  | .ld_D_A => .ldRR .d .a
  | .ld_E_B => .ldRR .e .b
  | .ld_E_C => .ldRR .e .c
  | .ld_E_D => .ldRR .e .d
  | .ld_E_E => .ldRR .e .e
  | .ld_E_H => .ldRR .e .h
  | .ld_E_L => .ldRR .e .l
  | .ld_E_mHL => .ldRM .e
  | .ld_E_A => .ldRR .e .a
  | .ld_H_B => .ldRR .h .b
  | .ld_H_C => .ldRR .h .c
  | .ld_H_D => .ldRR .h .d
  | .ld_H_E => .ldRR .h .e
  | .ld_H_H => .ldRR .h .h
  | .ld_H_L => .ldRR .h .l
  | .ld_H_mHL => .ldRM .h
  | .ld_H_A => .ldRR .h .a
  | .ld_L_B => .ldRR .l .b
  | .ld_L_C => .ldRR .l .c
  | .ld_L_D => .ldRR .l .d
  | .ld_L_E => .ldRR .l .e
  | .ld_L_H => .ldRR .l .h
  | .ld_L_L => .ldRR .l .l
  | .ld_L_mHL => .ldRM .l
  | .ld_L_A => .ldRR .l .a
  | .ld_mHL_B => .ldMR .b
  | .ld_mHL_C => .ldMR .c
  | .ld_mHL_D => .ldMR .d
  | .ld_mHL_E => .ldMR .e
  | .ld_mHL_H => .ldMR .h
  | .ld_mHL_L => .ldMR .l
  | .halt => .halt
  | .ld_mHL_A => .ldMR .a
  | .ld_A_B => .ldRR .a .b
  | .ld_A_C => .ldRR .a .c
  | .ld_A_D => .ldRR .a .d
  | .ld_A_E => .ldRR .a .e
  | .ld_A_H => .ldRR .a .h
  | .ld_A_L => .ldRR .a .l
  | .ld_A_mHL => .ldRM .a
  | .ld_A_A => .ldRR .a .a
  | .add_A_B => .alu .add (.reg .b)
  | .add_A_C => .alu .add (.reg .c)
  | .add_A_D => .alu .add (.reg .d)
  | .add_A_E => .alu .add (.reg .e)
  | .add_A_H => .alu .add (.reg .h)
  | .add_A_L => .alu .add (.reg .l)
  | .add_A_mHL => .alu .add .mHL
  | .add_A_A => .alu .add (.reg .a)
  | .adc_A_B => .alu .adc (.reg .b)
  | .adc_A_C => .alu .adc (.reg .c)
  | .adc_A_D => .alu .adc (.reg .d)
  | .adc_A_E => .alu .adc (.reg .e)
  | .adc_A_H => .alu .adc (.reg .h)
  | .adc_A_L => .alu .adc (.reg .l)
  | .adc_A_mHL => .alu .adc .mHL
  | .adc_A_A => .alu .adc (.reg .a)
  | .sub_B => .alu .sub (.reg .b)
  | .sub_C => .alu .sub (.reg .c)
  | .sub_D => .alu .sub (.reg .d)
  | .sub_E => .alu .sub (.reg .e)
  | .sub_H => .alu .sub (.reg .h)
  | .sub_L => .alu .sub (.reg .l)
  | .sub_mHL => .alu .sub .mHL
  | .sub_A => .alu .sub (.reg .a)
  | .sbc_A_B => .alu .sbc (.reg .b)
  | .sbc_A_C => .alu .sbc (.reg .c)
  | .sbc_A_D => .alu .sbc (.reg .d)
  | .sbc_A_E => .alu .sbc (.reg .e)
  | .sbc_A_H => .alu .sbc (.reg .h)
  | .sbc_A_L => .alu .sbc (.reg .l)
  | .sbc_A_mHL => .alu .sbc .mHL
  | .sbc_A_A => .alu .sbc (.reg .a)
  | .and_B => .alu .and (.reg .b)
  | .and_C => .alu .and (.reg .c)
  | .and_D => .alu .and (.reg .d)
  | .and_E => .alu .and (.reg .e)
  | .and_H => .alu .and (.reg .h)
  | .and_L => .alu .and (.reg .l)
  | .and_mHL => .alu .and .mHL
  | .and_A => .alu .and (.reg .a)
  | .xor_B => .alu .xor (.reg .b)
  | .xor_C => .alu .xor (.reg .c)
  | .xor_D => .alu .xor (.reg .d)
  | .xor_E => .alu .xor (.reg .e)
  | .xor_H => .alu .xor (.reg .h)
  | .xor_L => .alu .xor (.reg .l)
  | .xor_mHL => .alu .xor .mHL
  | .xor_A => .alu .xor (.reg .a)
  | .or_B => .alu .or (.reg .b)
  | .or_C => .alu .or (.reg .c)
  | .or_D => .alu .or (.reg .d)
  | .or_E => .alu .or (.reg .e)
  | .or_H => .alu .or (.reg .h)
  | .or_L => .alu .or (.reg .l)
  | .or_mHL => .alu .or .mHL
  | .or_A => .alu .or (.reg .a)
  | .cp_B => .alu .cp (.reg .b)
  | .cp_C => .alu .cp (.reg .c)
  | .cp_D => .alu .cp (.reg .d)
  | .cp_E => .alu .cp (.reg .e)
  | .cp_H => .alu .cp (.reg .h)
  | .cp_L => .alu .cp (.reg .l)
  | .cp_mHL => .alu .cp .mHL
  | .cp_A => .alu .cp (.reg .a)
  | .ret_NZ => .retCC .nz
  | .pop_BC => .pop .bc
  | .jp_NZ_a16 x => .jpCC .nz x
  | .jp_a16 x => .jp x
  | .call_NZ_a16 x => .callCC .nz x
  | .push_BC => .push .bc
  | .add_A_d8 x => .aluD8 .add x
  | .rst_00H => .rst .i0
  | .ret_Z => .retCC .z
  | .ret => .ret
  | .jp_Z_a16 x => .jpCC .z x
  | .cb_prefix x => .cbPrefix x
  | .call_Z_a16 x => .callCC .z x
  | .call_a16 x => .call x
  | .adc_A_d8 x => .aluD8 .adc x
  | .rst_08H => .rst .i1
  | .ret_NC => .retCC .nc
  | .pop_DE => .pop .de
  | .jp_NC_a16 x => .jpCC .nc x
  | .illegal_D3 => .illegal .xD3
  | .call_NC_a16 x => .callCC .nc x
  | .push_DE => .push .de
  | .sub_d8 x => .aluD8 .sub x
  | .rst_10H => .rst .i2
  | .ret_C => .retCC .c
  | .reti => .reti
  | .jp_C_a16 x => .jpCC .c x
  | .illegal_DB => .illegal .xDB
  | .call_C_a16 x => .callCC .c x
  | .illegal_DD => .illegal .xDD
  | .sbc_A_d8 x => .aluD8 .sbc x
  | .rst_18H => .rst .i3
  | .ldh_ma8_A x => .ldhMA x
  | .pop_HL => .pop .hl
  | .ld_mC_A => .ldMCA
  | .illegal_E3 => .illegal .xE3
  | .illegal_E4 => .illegal .xE4
  | .push_HL => .push .hl
  | .and_d8 x => .aluD8 .and x
  | .rst_20H => .rst .i4
  | .add_SP_e8 x => .addSP x
  | .jp_HL => .jpHL
  | .ld_ma16_A x => .ldM16A x
  | .illegal_EB => .illegal .xEB
  | .illegal_EC => .illegal .xEC
  | .illegal_ED => .illegal .xED
  | .xor_d8 x => .aluD8 .xor x
  | .rst_28H => .rst .i5
  | .ldh_A_ma8 x => .ldhAM x
  | .pop_AF => .pop .af
  | .ld_A_mC => .ldAMC
  | .di => .di
  | .illegal_F4 => .illegal .xF4
  | .push_AF => .push .af
  | .or_d8 x => .aluD8 .or x
  | .rst_30H => .rst .i6
  | .ld_HL_SPe8 x => .ldHLSP x
  | .ld_SP_HL => .ldSPHL
  | .ld_A_ma16 x => .ldAM16 x
  | .ei => .ei
  | .illegal_FC => .illegal .xFC
  | .illegal_FD => .illegal .xFD
  | .cp_d8 x => .aluD8 .cp x
  | .rst_38H => .rst .i7
  | .rlc_B => .shift .rlc (.reg .b)
  | .rlc_C => .shift .rlc (.reg .c)
  | .rlc_D => .shift .rlc (.reg .d)
  | .rlc_E => .shift .rlc (.reg .e)
  | .rlc_H => .shift .rlc (.reg .h)
  | .rlc_L => .shift .rlc (.reg .l)
  | .rlc_mHL => .shift .rlc .mHL
  | .rlc_A => .shift .rlc (.reg .a)
  | .rrc_B => .shift .rrc (.reg .b)
  | .rrc_C => .shift .rrc (.reg .c)
  | .rrc_D => .shift .rrc (.reg .d)
  | .rrc_E => .shift .rrc (.reg .e)
  | .rrc_H => .shift .rrc (.reg .h)
  | .rrc_L => .shift .rrc (.reg .l)
  | .rrc_mHL => .shift .rrc .mHL
  | .rrc_A => .shift .rrc (.reg .a)
  | .rl_B => .shift .rl (.reg .b)
  | .rl_C => .shift .rl (.reg .c)
  | .rl_D => .shift .rl (.reg .d)
  | .rl_E => .shift .rl (.reg .e)
  | .rl_H => .shift .rl (.reg .h)
  | .rl_L => .shift .rl (.reg .l)
  | .rl_mHL => .shift .rl .mHL
  | .rl_A => .shift .rl (.reg .a)
  | .rr_B => .shift .rr (.reg .b)
  | .rr_C => .shift .rr (.reg .c)
  | .rr_D => .shift .rr (.reg .d)
  | .rr_E => .shift .rr (.reg .e)
  | .rr_H => .shift .rr (.reg .h)
  | .rr_L => .shift .rr (.reg .l)
  | .rr_mHL => .shift .rr .mHL
  | .rr_A => .shift .rr (.reg .a)
  | .sla_B => .shift .sla (.reg .b)
  | .sla_C => .shift .sla (.reg .c)
  | .sla_D => .shift .sla (.reg .d)
  | .sla_E => .shift .sla (.reg .e)
  | .sla_H => .shift .sla (.reg .h)
  | .sla_L => .shift .sla (.reg .l)
  | .sla_mHL => .shift .sla .mHL
  | .sla_A => .shift .sla (.reg .a)
  | .sra_B => .shift .sra (.reg .b)
  | .sra_C => .shift .sra (.reg .c)
  | .sra_D => .shift .sra (.reg .d)
  | .sra_E => .shift .sra (.reg .e)
  | .sra_H => .shift .sra (.reg .h)
  | .sra_L => .shift .sra (.reg .l)
  | .sra_mHL => .shift .sra .mHL
  | .sra_A => .shift .sra (.reg .a)
  | .swap_B => .shift .swap (.reg .b)
  | .swap_C => .shift .swap (.reg .c)
  | .swap_D => .shift .swap (.reg .d)
  | .swap_E => .shift .swap (.reg .e)
  | .swap_H => .shift .swap (.reg .h)
  | .swap_L => .shift .swap (.reg .l)
  | .swap_mHL => .shift .swap .mHL
  | .swap_A => .shift .swap (.reg .a)
  | .srl_B => .shift .srl (.reg .b)
  | .srl_C => .shift .srl (.reg .c)
  | .srl_D => .shift .srl (.reg .d)
  | .srl_E => .shift .srl (.reg .e)
  | .srl_H => .shift .srl (.reg .h)
  | .srl_L => .shift .srl (.reg .l)
  | .srl_mHL => .shift .srl .mHL
  | .srl_A => .shift .srl (.reg .a)
  | .bit_0_B => .bit .i0 (.reg .b)
  | .bit_0_C => .bit .i0 (.reg .c)
  | .bit_0_D => .bit .i0 (.reg .d)
  | .bit_0_E => .bit .i0 (.reg .e)
  | .bit_0_H => .bit .i0 (.reg .h)
  | .bit_0_L => .bit .i0 (.reg .l)
  | .bit_0_mHL => .bit .i0 .mHL
  | .bit_0_A => .bit .i0 (.reg .a)
  | .bit_1_B => .bit .i1 (.reg .b)
  | .bit_1_C => .bit .i1 (.reg .c)
  | .bit_1_D => .bit .i1 (.reg .d)
  | .bit_1_E => .bit .i1 (.reg .e)
  | .bit_1_H => .bit .i1 (.reg .h)
  | .bit_1_L => .bit .i1 (.reg .l)
  | .bit_1_mHL => .bit .i1 .mHL
  | .bit_1_A => .bit .i1 (.reg .a)
  | .bit_2_B => .bit .i2 (.reg .b)
  | .bit_2_C => .bit .i2 (.reg .c)
  | .bit_2_D => .bit .i2 (.reg .d)
  | .bit_2_E => .bit .i2 (.reg .e)
  | .bit_2_H => .bit .i2 (.reg .h)
  | .bit_2_L => .bit .i2 (.reg .l)
  | .bit_2_mHL => .bit .i2 .mHL
  | .bit_2_A => .bit .i2 (.reg .a)
  | .bit_3_B => .bit .i3 (.reg .b)
  | .bit_3_C => .bit .i3 (.reg .c)
  | .bit_3_D => .bit .i3 (.reg .d)
  | .bit_3_E => .bit .i3 (.reg .e)
  | .bit_3_H => .bit .i3 (.reg .h)
  | .bit_3_L => .bit .i3 (.reg .l)
  | .bit_3_mHL => .bit .i3 .mHL
  | .bit_3_A => .bit .i3 (.reg .a)
  | .bit_4_B => .bit .i4 (.reg .b)
  | .bit_4_C => .bit .i4 (.reg .c)
  | .bit_4_D => .bit .i4 (.reg .d)
  | .bit_4_E => .bit .i4 (.reg .e)
  | .bit_4_H => .bit .i4 (.reg .h)
  | .bit_4_L => .bit .i4 (.reg .l)
  | .bit_4_mHL => .bit .i4 .mHL
  | .bit_4_A => .bit .i4 (.reg .a)
  | .bit_5_B => .bit .i5 (.reg .b)
  | .bit_5_C => .bit .i5 (.reg .c)
  | .bit_5_D => .bit .i5 (.reg .d)
  | .bit_5_E => .bit .i5 (.reg .e)
  | .bit_5_H => .bit .i5 (.reg .h)
  | .bit_5_L => .bit .i5 (.reg .l)
  | .bit_5_mHL => .bit .i5 .mHL
  | .bit_5_A => .bit .i5 (.reg .a)
  | .bit_6_B => .bit .i6 (.reg .b)
  | .bit_6_C => .bit .i6 (.reg .c)
  | .bit_6_D => .bit .i6 (.reg .d)
  | .bit_6_E => .bit .i6 (.reg .e)
  | .bit_6_H => .bit .i6 (.reg .h)
  | .bit_6_L => .bit .i6 (.reg .l)
  | .bit_6_mHL => .bit .i6 .mHL
  | .bit_6_A => .bit .i6 (.reg .a)
  | .bit_7_B => .bit .i7 (.reg .b)
  | .bit_7_C => .bit .i7 (.reg .c)
  | .bit_7_D => .bit .i7 (.reg .d)
  | .bit_7_E => .bit .i7 (.reg .e)
  | .bit_7_H => .bit .i7 (.reg .h)
  | .bit_7_L => .bit .i7 (.reg .l)
  | .bit_7_mHL => .bit .i7 .mHL
  | .bit_7_A => .bit .i7 (.reg .a)
  | .res_0_B => .res .i0 (.reg .b)
  | .res_0_C => .res .i0 (.reg .c)
  | .res_0_D => .res .i0 (.reg .d)
  | .res_0_E => .res .i0 (.reg .e)
  | .res_0_H => .res .i0 (.reg .h)
  | .res_0_L => .res .i0 (.reg .l)
  | .res_0_mHL => .res .i0 .mHL
  | .res_0_A => .res .i0 (.reg .a)
  | .res_1_B => .res .i1 (.reg .b)
  | .res_1_C => .res .i1 (.reg .c)
  | .res_1_D => .res .i1 (.reg .d)
  | .res_1_E => .res .i1 (.reg .e)
  | .res_1_H => .res .i1 (.reg .h)
  | .res_1_L => .res .i1 (.reg .l)
  | .res_1_mHL => .res .i1 .mHL
  | .res_1_A => .res .i1 (.reg .a)
  | .res_2_B => .res .i2 (.reg .b)
  | .res_2_C => .res .i2 (.reg .c)
  | .res_2_D => .res .i2 (.reg .d)
  | .res_2_E => .res .i2 (.reg .e)
  | .res_2_H => .res .i2 (.reg .h)
  | .res_2_L => .res .i2 (.reg .l)
  | .res_2_mHL => .res .i2 .mHL
  | .res_2_A => .res .i2 (.reg .a)
  | .res_3_B => .res .i3 (.reg .b)
  | .res_3_C => .res .i3 (.reg .c)
  | .res_3_D => .res .i3 (.reg .d)
  | .res_3_E => .res .i3 (.reg .e)
  | .res_3_H => .res .i3 (.reg .h)
  | .res_3_L => .res .i3 (.reg .l)
  | .res_3_mHL => .res .i3 .mHL
  | .res_3_A => .res .i3 (.reg .a)
  | .res_4_B => .res .i4 (.reg .b)
  | .res_4_C => .res .i4 (.reg .c)
  | .res_4_D => .res .i4 (.reg .d)
  | .res_4_E => .res .i4 (.reg .e)
  | .res_4_H => .res .i4 (.reg .h)
  | .res_4_L => .res .i4 (.reg .l)
  | .res_4_mHL => .res .i4 .mHL
  | .res_4_A => .res .i4 (.reg .a)
  | .res_5_B => .res .i5 (.reg .b)
  | .res_5_C => .res .i5 (.reg .c)
  | .res_5_D => .res .i5 (.reg .d)
  | .res_5_E => .res .i5 (.reg .e)
  | .res_5_H => .res .i5 (.reg .h)
  | .res_5_L => .res .i5 (.reg .l)
  | .res_5_mHL => .res .i5 .mHL
  | .res_5_A => .res .i5 (.reg .a)
  | .res_6_B => .res .i6 (.reg .b)
  | .res_6_C => .res .i6 (.reg .c)
  | .res_6_D => .res .i6 (.reg .d)
  | .res_6_E => .res .i6 (.reg .e)
  | .res_6_H => .res .i6 (.reg .h)
  | .res_6_L => .res .i6 (.reg .l)
  | .res_6_mHL => .res .i6 .mHL
  | .res_6_A => .res .i6 (.reg .a)
  | .res_7_B => .res .i7 (.reg .b)
  | .res_7_C => .res .i7 (.reg .c)
  | .res_7_D => .res .i7 (.reg .d)
  | .res_7_E => .res .i7 (.reg .e)
  | .res_7_H => .res .i7 (.reg .h)
  | .res_7_L => .res .i7 (.reg .l)
  | .res_7_mHL => .res .i7 .mHL
  | .res_7_A => .res .i7 (.reg .a)
  | .set_0_B => .set .i0 (.reg .b)
  | .set_0_C => .set .i0 (.reg .c)
  | .set_0_D => .set .i0 (.reg .d)
  | .set_0_E => .set .i0 (.reg .e)
  | .set_0_H => .set .i0 (.reg .h)
  | .set_0_L => .set .i0 (.reg .l)
  | .set_0_mHL => .set .i0 .mHL
  | .set_0_A => .set .i0 (.reg .a)
  | .set_1_B => .set .i1 (.reg .b)
  | .set_1_C => .set .i1 (.reg .c)
  | .set_1_D => .set .i1 (.reg .d)
  | .set_1_E => .set .i1 (.reg .e)
  | .set_1_H => .set .i1 (.reg .h)
  | .set_1_L => .set .i1 (.reg .l)
  | .set_1_mHL => .set .i1 .mHL
  | .set_1_A => .set .i1 (.reg .a)
  | .set_2_B => .set .i2 (.reg .b)
  | .set_2_C => .set .i2 (.reg .c)
  | .set_2_D => .set .i2 (.reg .d)
  | .set_2_E => .set .i2 (.reg .e)
  | .set_2_H => .set .i2 (.reg .h)
  | .set_2_L => .set .i2 (.reg .l)
  | .set_2_mHL => .set .i2 .mHL
  | .set_2_A => .set .i2 (.reg .a)
  | .set_3_B => .set .i3 (.reg .b)
  | .set_3_C => .set .i3 (.reg .c)
  | .set_3_D => .set .i3 (.reg .d)
  | .set_3_E => .set .i3 (.reg .e)
  | .set_3_H => .set .i3 (.reg .h)
  | .set_3_L => .set .i3 (.reg .l)
  | .set_3_mHL => .set .i3 .mHL
  | .set_3_A => .set .i3 (.reg .a)
  | .set_4_B => .set .i4 (.reg .b)
  | .set_4_C => .set .i4 (.reg .c)
  | .set_4_D => .set .i4 (.reg .d)
  | .set_4_E => .set .i4 (.reg .e)
  | .set_4_H => .set .i4 (.reg .h)
  | .set_4_L => .set .i4 (.reg .l)
  | .set_4_mHL => .set .i4 .mHL
  | .set_4_A => .set .i4 (.reg .a)
  | .set_5_B => .set .i5 (.reg .b)
  | .set_5_C => .set .i5 (.reg .c)
  | .set_5_D => .set .i5 (.reg .d)
  | .set_5_E => .set .i5 (.reg .e)
  | .set_5_H => .set .i5 (.reg .h)
  | .set_5_L => .set .i5 (.reg .l)
  | .set_5_mHL => .set .i5 .mHL
  | .set_5_A => .set .i5 (.reg .a)
  | .set_6_B => .set .i6 (.reg .b)
  | .set_6_C => .set .i6 (.reg .c)
  | .set_6_D => .set .i6 (.reg .d)
  | .set_6_E => .set .i6 (.reg .e)
  | .set_6_H => .set .i6 (.reg .h)
  | .set_6_L => .set .i6 (.reg .l)
  | .set_6_mHL => .set .i6 .mHL
  | .set_6_A => .set .i6 (.reg .a)
  | .set_7_B => .set .i7 (.reg .b)
  | .set_7_C => .set .i7 (.reg .c)
  | .set_7_D => .set .i7 (.reg .d)
  | .set_7_E => .set .i7 (.reg .e)
  | .set_7_H => .set .i7 (.reg .h)
  | .set_7_L => .set .i7 (.reg .l)
  | .set_7_mHL => .set .i7 .mHL
  | .set_7_A => .set .i7 (.reg .a)

/-! ### Fields of an opcode byte (R121) -/

/-- Field `x`, bits 7..6. -/
def fieldX (op : Byte) : Nat := op.toNat / 64

/-- A 3-bit field value as an `Idx8`. -/
def Idx8.ofField (n : Nat) : Idx8 :=
  match n with
  | 0 => .i0
  | 1 => .i1
  | 2 => .i2
  | 3 => .i3
  | 4 => .i4
  | 5 => .i5
  | 6 => .i6
  | _ => .i7

/-- The number a 3-bit field holds. -/
def Idx8.num : Idx8 → Nat
  | .i0 => 0
  | .i1 => 1
  | .i2 => 2
  | .i3 => 3
  | .i4 => 4
  | .i5 => 5
  | .i6 => 6
  | .i7 => 7

/-- Field `y`, bits 5..3. -/
def fieldY (op : Byte) : Idx8 := Idx8.ofField (op.toNat / 8 % 8)

/-- Field `z`, bits 2..0. -/
def fieldZ (op : Byte) : Idx8 := Idx8.ofField (op.toNat % 8)

/-- R124: the operand that the 3-bit register field selects. -/
def Idx8.opnd : Idx8 → Opnd8
  | .i0 => .reg .b
  | .i1 => .reg .c
  | .i2 => .reg .d
  | .i3 => .reg .e
  | .i4 => .reg .h
  | .i5 => .reg .l
  | .i6 => .mHL
  | .i7 => .reg .a

/-- R125: the pair that field `p` (bits 5..4, the upper two bits of `y`) selects. -/
def Idx8.pair : Idx8 → Pair
  | .i0 | .i1 => .bc
  | .i2 | .i3 => .de
  | .i4 | .i5 => .hl
  | .i6 | .i7 => .sp

/-- R126: the pair that field `p` selects in PUSH and POP. -/
def Idx8.stackPair : Idx8 → StackPair
  | .i0 | .i1 => .bc
  | .i2 | .i3 => .de
  | .i4 | .i5 => .hl
  | .i6 | .i7 => .af

/-- R121, R128: `cc` is `y & 3`. -/
def Idx8.cond : Idx8 → Cond
  | .i0 | .i4 => .nz
  | .i1 | .i5 => .z
  | .i2 | .i6 => .nc
  | .i3 | .i7 => .c

/-- R129: the ALU operation of field `y`. -/
def Idx8.aluOp : Idx8 → AluOp
  | .i0 => .add
  | .i1 => .adc
  | .i2 => .sub
  | .i3 => .sbc
  | .i4 => .and
  | .i5 => .xor
  | .i6 => .or
  | .i7 => .cp

/-- R134: the rotate or shift of field `y`. -/
def Idx8.shiftOp : Idx8 → ShiftOp
  | .i0 => .rlc
  | .i1 => .rrc
  | .i2 => .rl
  | .i3 => .rr
  | .i4 => .sla
  | .i5 => .sra
  | .i6 => .swap
  | .i7 => .srl

/-! ### Decoding -/

/-- R127, R90: a 16-bit immediate, low byte first. -/
def imm16 (lo hi : Byte) : Word := hi ++ lo

/-- R134, R141: the byte after 0xCB. -/
def cbForm (cb : Byte) : Form :=
  match fieldX cb with
  | 0 => .shift (fieldY cb).shiftOp (fieldZ cb).opnd
  | 1 => .bit (fieldY cb) (fieldZ cb).opnd
  | 2 => .res (fieldY cb) (fieldZ cb).opnd
  | _ => .set (fieldY cb) (fieldZ cb).opnd

/-- R140, rows 0x to 3x (x = 0). -/
def quarter0 (y z : Idx8) (b1 b2 : Byte) : Form :=
  match z with
  | .i0 =>
    match y with
    | .i0 => .nop
    | .i1 => .ldM16SP (imm16 b1 b2)
    | .i2 => .stop b1
    | .i3 => .jr b1
    | .i4 | .i5 | .i6 | .i7 => .jrCC y.cond b1
  | .i1 =>
    match y with
    | .i0 | .i2 | .i4 | .i6 => .ldPairD16 y.pair (imm16 b1 b2)
    | .i1 | .i3 | .i5 | .i7 => .addHL y.pair
  | .i2 =>
    match y with
    | .i0 => .ldPtrA .bc
    | .i1 => .ldAPtr .bc
    | .i2 => .ldPtrA .de
    | .i3 => .ldAPtr .de
    | .i4 => .ldMIncA
    | .i5 => .ldAMInc
    | .i6 => .ldMDecA
    | .i7 => .ldAMDec
  | .i3 =>
    match y with
    | .i0 | .i2 | .i4 | .i6 => .inc16 y.pair
    | .i1 | .i3 | .i5 | .i7 => .dec16 y.pair
  | .i4 => .inc8 y.opnd
  | .i5 => .dec8 y.opnd
  | .i6 =>
    match y.opnd with
    | .reg r => .ldRD8 r b1
    | .mHL => .ldMD8 b1
  | .i7 =>
    match y with
    | .i0 => .rlca
    | .i1 => .rrca
    | .i2 => .rla
    | .i3 => .rra
    | .i4 => .daa
    | .i5 => .cpl
    | .i6 => .scf
    | .i7 => .ccf

/-- R140, rows 4x to 7x (x = 1): `LD r,r'` in all its forms, with HALT where `LD (HL),(HL)` would stand (R321). -/
def quarter1 (y z : Idx8) : Form :=
  match y.opnd, z.opnd with
  | .reg dst, .reg src => .ldRR dst src
  | .reg dst, .mHL => .ldRM dst
  | .mHL, .reg src => .ldMR src
  | .mHL, .mHL => .halt

/-- R140, rows Cx to Fx (x = 3). -/
def quarter3 (y z : Idx8) (b1 b2 : Byte) : Form :=
  match z with
  | .i0 =>
    match y with
    | .i0 | .i1 | .i2 | .i3 => .retCC y.cond
    | .i4 => .ldhMA b1
    | .i5 => .addSP b1
    | .i6 => .ldhAM b1
    | .i7 => .ldHLSP b1
  | .i1 =>
    match y with
    | .i0 | .i2 | .i4 | .i6 => .pop y.stackPair
    | .i1 => .ret
    | .i3 => .reti
    | .i5 => .jpHL
    | .i7 => .ldSPHL
  | .i2 =>
    match y with
    | .i0 | .i1 | .i2 | .i3 => .jpCC y.cond (imm16 b1 b2)
    | .i4 => .ldMCA
    | .i5 => .ldM16A (imm16 b1 b2)
    | .i6 => .ldAMC
    | .i7 => .ldAM16 (imm16 b1 b2)
  | .i3 =>
    match y with
    | .i0 => .jp (imm16 b1 b2)
    | .i1 => cbForm b1
    | .i2 => .illegal .xD3
    | .i3 => .illegal .xDB
    | .i4 => .illegal .xE3
    | .i5 => .illegal .xEB
    | .i6 => .di
    | .i7 => .ei
  | .i4 =>
    match y with
    | .i0 | .i1 | .i2 | .i3 => .callCC y.cond (imm16 b1 b2)
    | .i4 => .illegal .xE4
    | .i5 => .illegal .xEC
    | .i6 => .illegal .xF4
    | .i7 => .illegal .xFC
  | .i5 =>
    match y with
    | .i0 | .i2 | .i4 | .i6 => .push y.stackPair
    | .i1 => .call (imm16 b1 b2)
    | .i3 => .illegal .xDD
    | .i5 => .illegal .xED
    | .i7 => .illegal .xFD
  | .i6 => .aluD8 y.aluOp b1
  | .i7 => .rst y

/-- The form of the instruction whose bytes begin `op`, `b1`, `b2` (R130, R133, R140): total, and bytes past the instruction's
length are not looked at. -/
def decodeForm (op b1 b2 : Byte) : Form :=
  match fieldX op with
  | 0 => quarter0 (fieldY op) (fieldZ op) b1 b2
  | 1 => quarter1 (fieldY op) (fieldZ op)
  | 2 => .alu (fieldY op).aluOp (fieldZ op).opnd
  | _ => quarter3 (fieldY op) (fieldZ op) b1 b2

/-- The instruction whose bytes begin `op`, `b1`, `b2`. -/
def decode3 (op b1 b2 : Byte) : Instr := (decodeForm op b1 b2).instr

/-- R122, R123: the length in bytes of each form. -/
def Form.length : Form → Nat
  | .stop _ | .ldRD8 _ _ | .ldMD8 _ | .ldhMA _ | .ldhAM _ | .ldHLSP _ | .aluD8 _ _ | .addSP _ | .jr _ | .jrCC _ _
  | .shift _ _ | .bit _ _ | .res _ _ | .set _ _ | .cbPrefix _ => 2
  | .ldM16A _ | .ldAM16 _ | .ldPairD16 _ _ | .ldM16SP _ | .jp _ | .jpCC _ _ | .call _ | .callCC _ _ => 3
  | .nop | .halt | .di | .ei | .ldRR _ _ | .ldRM _ | .ldMR _ | .ldAPtr _ | .ldPtrA _ | .ldMIncA | .ldAMInc | .ldMDecA
  | .ldAMDec | .ldMCA | .ldAMC | .ldSPHL | .alu _ _ | .inc8 _ | .dec8 _ | .daa | .cpl | .scf | .ccf | .rlca | .rrca | .rla
  | .rra | .inc16 _ | .dec16 _ | .addHL _ | .jpHL | .ret | .retCC _ | .reti | .rst _ | .push _ | .pop _ | .illegal _ => 1

/-- The length in bytes of an instruction. -/
def Instr.length (i : Instr) : Nat := i.form.length

/-- R123: "A decoder finds the length from the opcode byte alone." -/
def opcodeLength (op : Byte) : Nat := (decodeForm op 0 0).length

/-- Why a list of bytes is no instruction: it ends too early. No first byte is refused (R136). -/
inductive DecodeError where
  /-- There is no byte at all. -/
  | empty
  /-- The list ends inside the instruction that begins with this opcode. -/
  | truncated (op : Byte)
  deriving DecidableEq, Repr

/-- The instruction at the head of a list of bytes, and the bytes after it. -/
def decode (bytes : List Byte) : Except DecodeError (Instr × List Byte) :=
  match bytes with
  | [] => .error .empty
  | op :: rest =>
    match opcodeLength op, rest with
    | 1, rest => .ok (decode3 op 0 0, rest)
    | 2, b1 :: rest => .ok (decode3 op b1 0, rest)
    | 3, b1 :: b2 :: rest => .ok (decode3 op b1 b2, rest)
    | _, _ => .error (.truncated op)

/-! ### Encoding -/

/-- An opcode byte from its fields x, y, z (R121). -/
def opcodeOf (x y z : Nat) : Byte := BitVec.ofNat 8 (x * 64 + y * 8 + z)

/-- R124: the code of a register. -/
def Reg8.code : Reg8 → Nat
  | .b => 0
  | .c => 1
  | .d => 2
  | .e => 3
  | .h => 4
  | .l => 5
  | .a => 7

/-- R124: the code of an operand. -/
def Opnd8.code : Opnd8 → Nat
  | .reg r => r.code
  | .mHL => 6

/-- R125: the code of a pair. -/
def Pair.code : Pair → Nat
  | .bc => 0
  | .de => 1
  | .hl => 2
  | .sp => 3

/-- R126: the code of a pair in PUSH and POP. -/
def StackPair.code : StackPair → Nat
  | .bc => 0
  | .de => 1
  | .hl => 2
  | .af => 3

/-- R346 to R349: bit 4 of `LD A,(rr)` and `LD (rr),A`. -/
def PtrPair.code : PtrPair → Nat
  | .bc => 0
  | .de => 1

/-- R128: the code of a condition. -/
def Cond.code : Cond → Nat
  | .nz => 0
  | .z => 1
  | .nc => 2
  | .c => 3

/-- R129: the code of an ALU operation. -/
def AluOp.code : AluOp → Nat
  | .add => 0
  | .adc => 1
  | .sub => 2
  | .sbc => 3
  | .and => 4
  | .xor => 5
  | .or => 6
  | .cp => 7

/-- R134: the code of a CB rotate or shift. -/
def ShiftOp.code : ShiftOp → Nat
  | .rlc => 0
  | .rrc => 1
  | .rl => 2
  | .rr => 3
  | .sla => 4
  | .sra => 5
  | .swap => 6
  | .srl => 7

/-- R135: the byte itself. -/
def IllegalByte.byte : IllegalByte → Byte
  | .xD3 => 0xD3
  | .xDB => 0xDB
  | .xDD => 0xDD
  | .xE3 => 0xE3
  | .xE4 => 0xE4
  | .xEB => 0xEB
  | .xEC => 0xEC
  | .xED => 0xED
  | .xF4 => 0xF4
  | .xFC => 0xFC
  | .xFD => 0xFD

/-- Low byte of a word: bits 7..0 (R90). -/
def lo8 (w : Word) : Byte := w.setWidth 8

/-- High byte of a word: bits 15..8 (R90). -/
def hi8 (w : Word) : Byte := (w >>> 8).setWidth 8

/-- An opcode and a 16-bit immediate, low byte first (R122, `OP_IMM16`). -/
def withImm16 (op : Byte) (w : Word) : List Byte := [op, lo8 w, hi8 w]

/-- The bytes of each form, from the encoding line of its rule. -/
def Form.bytes : Form → List Byte
  | .nop => [0x00]
  | .halt => [0x76]
  | .di => [0xF3]
  | .ei => [0xFB]
  | .stop x => [0x10, x]
  | .ldRR dst src => [opcodeOf 1 dst.code src.code]
  | .ldRD8 r x => [opcodeOf 0 r.code 6, x]
  | .ldRM r => [opcodeOf 1 r.code 6]
  | .ldMR r => [opcodeOf 1 6 r.code]
  | .ldMD8 x => [0x36, x]
  | .ldAPtr p => [opcodeOf 0 (2 * p.code + 1) 2]
  | .ldPtrA p => [opcodeOf 0 (2 * p.code) 2]
  | .ldMIncA => [0x22]
  | .ldAMInc => [0x2A]
  | .ldMDecA => [0x32]
  | .ldAMDec => [0x3A]
  | .ldhMA x => [0xE0, x]
  | .ldhAM x => [0xF0, x]
  | .ldMCA => [0xE2]
  | .ldAMC => [0xF2]
  | .ldM16A x => withImm16 0xEA x
  | .ldAM16 x => withImm16 0xFA x
  | .ldPairD16 p x => withImm16 (opcodeOf 0 (2 * p.code) 1) x
  | .ldM16SP x => withImm16 0x08 x
  | .ldHLSP x => [0xF8, x]
  | .ldSPHL => [0xF9]
  | .alu op o => [opcodeOf 2 op.code o.code]
  | .aluD8 op x => [opcodeOf 3 op.code 6, x]
  | .inc8 o => [opcodeOf 0 o.code 4]
  | .dec8 o => [opcodeOf 0 o.code 5]
  | .daa => [0x27]
  | .cpl => [0x2F]
  | .scf => [0x37]
  | .ccf => [0x3F]
  | .rlca => [0x07]
  | .rrca => [0x0F]
  | .rla => [0x17]
  | .rra => [0x1F]
  | .inc16 p => [opcodeOf 0 (2 * p.code) 3]
  | .dec16 p => [opcodeOf 0 (2 * p.code + 1) 3]
  | .addHL p => [opcodeOf 0 (2 * p.code + 1) 1]
  | .addSP x => [0xE8, x]
  | .jp x => withImm16 0xC3 x
  | .jpCC cc x => withImm16 (opcodeOf 3 cc.code 2) x
  | .jpHL => [0xE9]
  | .jr x => [0x18, x]
  | .jrCC cc x => [opcodeOf 0 (4 + cc.code) 0, x]
  | .call x => withImm16 0xCD x
  | .callCC cc x => withImm16 (opcodeOf 3 cc.code 4) x
  | .ret => [0xC9]
  | .retCC cc => [opcodeOf 3 cc.code 0]
  | .reti => [0xD9]
  | .rst t => [opcodeOf 3 t.num 7]
  | .push p => [opcodeOf 3 (2 * p.code) 5]
  | .pop p => [opcodeOf 3 (2 * p.code) 1]
  | .shift op o => [0xCB, opcodeOf 0 op.code o.code]
  | .bit b o => [0xCB, opcodeOf 1 b.num o.code]
  | .res b o => [0xCB, opcodeOf 2 b.num o.code]
  | .set b o => [0xCB, opcodeOf 3 b.num o.code]
  | .cbPrefix x => [0xCB, x]
  | .illegal op => [op.byte]

/-- The bytes of an instruction, in address order (R120, R122). -/
def encode (i : Instr) : List Byte := i.form.bytes

/-! ### The host's question about a row of the opcode table -/

/-- The bytes, in address order, of the instruction whose bits are `w` as spec/opcode_table.json numbers them. The table numbers
the bits of a CB row from the byte AFTER the prefix, so a 16-bit word whose first byte is no two-byte opcode can only be such
a row: its prefix byte is put back before it (log entry 9). Every other word is laid out as it stands, lower byte first. -/
def tableBytes (nbits w : Nat) : Byte × Byte × Byte :=
  let b0 : Byte := BitVec.ofNat 8 w
  let b1 : Byte := if nbits ≤ 8 then 0 else BitVec.ofNat 8 (w / 256)
  let b2 : Byte := if nbits ≤ 16 then 0 else BitVec.ofNat 8 (w / 65536)
  if nbits = 16 ∧ opcodeLength b0 ≠ 2 then (0xCB, b0, 0) else (b0, b1, b2)

/-- The instruction this decoder reads from a row's word. No word is refused: decoding three bytes is total. -/
def decodeTableWord (nbits w : Nat) : Option Instr :=
  let (b0, b1, b2) := tableBytes nbits w
  some (decode3 b0 b1 b2)

end Sys2Proof
end

