-- ==== Sys2Proof/Machine/State.lean ====
section
/-! DEFINITION. The state of the core, exactly the record of R30: the register file, the MMU's buffers and its overlay latch, the
clock, the run state, IME, ei_pending and the fault latch. Everything is plain data. -/

namespace Sys2Proof.Machine

/-- The faults of R500. They are VALUES: the step that raises one rolls back, latches it in `State.fault` and answers that
state (`State.takeFault`, Machine/Ops.lean), because the spec describes the state a fault leaves. No step of this model
answers `Host.Outcome.fault`. Safe: nothing of the spec's effect is left out. -/
inductive Fault where
  /-- `UnimplementedOpcode(byte, prefix)`: raised by the decode of an illegal primary byte (R135). The prefix is always `none`
  (D37). Safe. -/
  | unimplementedOpcode (byte : Byte) (pfx : Option Byte)
  /-- `UnmappedRegion(addr)`: raised by any read or write of the ROM region with no ROM loaded, outside the BIOS overlay (R78,
  R87), whether a fetch, a load or store, a stack access or an interrupt push makes it. Safe. -/
  | unmappedRegion (addr : Word)
  /-- `InvalidRomSize(n)`: answered by the host calls `State.loadRom` and `State.setBios` to an image of the wrong length (R94,
  R95, R508); never by a step and never latched. Safe. -/
  | invalidRomSize (n : Nat)
  /-- `BusContention`: "reserved for extensions (timer/DMA). Not raised by the core alone." (R500). Nothing raises it. Safe. -/
  | busContention
  deriving DecidableEq, Repr

/-- Why a step has no next state. -/
inductive Refusal where
  /-- An instruction that has no meaning yet; raised by `exec`'s arm for it. No arm of this model does. Safe. -/
  | notModelled (mnemonic : String)
  /-- The spec's own `Refused(e)`: raised by every step of a core whose fault latch holds `e`, until `reset()` (R501). Safe. -/
  | faulted (e : Fault)
  deriving DecidableEq, Repr

/-- R42, R525: the three run states. -/
inductive RunState where
  | running | halted | stopped
  deriving DecidableEq, Repr

/-- A buffer's bytes: the list of (index, byte) pairs, indices strictly rising, of the bytes that are not
`Config.unlistedByte` (`Memory.wf`, Machine/Ops.lean). -/
abbrev Memory := List Host.Cell

/-- The register file (R30, R31, R32, R38, R39). The pairs are views (R33, Machine/Operands.lean). -/
structure Regs where
  /-- Accumulator. -/
  a : Byte
  /-- Flags `Z N H C 0 0 0 0` (R35); its low nibble is 0 in every state a run reaches (R50). -/
  f : Byte
  b : Byte
  c : Byte
  d : Byte
  e : Byte
  h : Byte
  l : Byte
  /-- Stack pointer. -/
  sp : Word
  /-- Program counter. -/
  pc : Word
  deriving DecidableEq, Repr

/-- The MMU's buffers (R71), the IE register (R46) and the BIOS overlay latch (R41). IF and BOOT are the I/O bytes at indices
0x0F and 0x50 (R47, R48). -/
structure Mmu where
  /-- The BIOS image: absent, or 256 bytes. -/
  bios : Option Memory
  /-- The ROM: absent, or 32,768 bytes. -/
  rom : Option Memory
  vram : Memory
  eram : Memory
  wram : Memory
  oam : Memory
  io : Memory
  zp : Memory
  ie : Byte
  inBios : Bool
  deriving DecidableEq, Repr

/-- R30: "The state of the CORE is exactly the following record. Nothing else persists between steps." -/
structure State where
  regs : Regs
  mmu : Mmu
  /-- M-cycles since reset, unbounded (R40). -/
  clock : Nat
  runState : RunState
  /-- The interrupt master enable (R43). -/
  ime : Bool
  /-- The delayed effect of EI (R44). -/
  eiPending : Bool
  /-- The sticky fault (R45). -/
  fault : Option Fault
  deriving DecidableEq, Repr

/-- R562: the registers after a reset with no BIOS image. -/
def Regs.postBios : Regs :=
  { a := 0x01, f := 0xB0, b := 0x00, c := 0x13, d := 0x00, e := 0xD8, h := 0x01, l := 0x4D, sp := 0xFFFE, pc := 0x0100 }

/-- R561: the registers after a reset with a BIOS image. -/
def Regs.zero : Regs :=
  { a := 0, f := 0, b := 0, c := 0, d := 0, e := 0, h := 0, l := 0, sp := 0, pc := 0 }

/-- The machine right after construction with no BIOS image, `RAM_INIT` all zero and no ROM loaded, then reset (R562, R565).
DESIGN CHOICE (log entries 1 and 2): the spec leaves `BIOS_IMAGE` and `RAM_INIT` to the host; every other value is R562's. -/
def State.reset : State :=
  { regs := Regs.postBios
    mmu := { bios := none, rom := none, vram := [], eram := [], wram := [], oam := [], io := [], zp := [], ie := 0,
             inBios := false }
    clock := 0
    runState := .running
    ime := false
    eiPending := false
    fault := none }

end Sys2Proof.Machine
end

