-- ==== Sys2Proof/Machine/Ops.lean ====
section
/-! DEFINITION. The named operations every meaning is made of: a buffer's bytes, the MMU's byte and word accesses (20_memory.md),
the stack, the clock and the program counter, taking a fault and taking an interrupt (60_exceptions.md), and `execute`, which
runs an instruction's body as R130 and R500 say. -/

namespace Sys2Proof.Machine

/-! ### A buffer's bytes -/

/-- The byte at an index of a buffer. -/
def Memory.get : Memory → Nat → Byte
  | [], _ => Config.unlistedByte
  | (k, v) :: m, i => if k = i then v else Memory.get m i

/-- A buffer without any entry for an index. -/
def Memory.erase : Memory → Nat → Memory
  | [], _ => []
  | (k, v) :: m, i => if k = i then Memory.erase m i else (k, v) :: Memory.erase m i

/-- A buffer with an entry for an index, put where the indices keep rising. -/
def Memory.insert : Memory → Nat → Byte → Memory
  | [], i, v => [(i, v)]
  | (k, w) :: m, i, v =>
    if i < k then (i, v) :: (k, w) :: m
    else if i = k then (i, v) :: m
    else (k, w) :: Memory.insert m i v

/-- A write of one byte to a buffer: writing what an unlisted index reads as removes the entry. -/
def Memory.set (m : Memory) (i : Nat) (v : Byte) : Memory :=
  if v = Config.unlistedByte then Memory.erase m i else Memory.insert m i v

/-- The canonical form from index `lo` on: indices strictly rising, all below `size`, no byte an unlisted index reads as. -/
def Memory.wfFrom (size : Nat) : Nat → Memory → Bool
  | _, [] => true
  | lo, (k, v) :: m => decide (lo ≤ k) && decide (k < size) && decide (v ≠ Config.unlistedByte) && Memory.wfFrom size (k + 1) m

/-- The canonical form of a buffer of `size` bytes. -/
def Memory.wf (size : Nat) (m : Memory) : Bool := Memory.wfFrom size 0 m

/-- The buffer of an image given byte by byte, its first byte at index `i`. -/
def Memory.ofBytes : Nat → List Byte → Memory
  | _, [] => []
  | i, v :: vs => if v = Config.unlistedByte then Memory.ofBytes (i + 1) vs else (i, v) :: Memory.ofBytes (i + 1) vs

/-- The canonical form of an absent or present image. -/
def imageWf (size : Nat) : Option Memory → Bool
  | none => true
  | some m => Memory.wf size m

/-- The canonical form of every buffer of the MMU (R71). -/
def Mmu.wf (m : Mmu) : Bool :=
  imageWf Config.biosSize m.bios && imageWf Config.romSize m.rom && Memory.wf Config.ramSize m.vram
    && Memory.wf Config.ramSize m.eram && Memory.wf Config.ramSize m.wram && Memory.wf Config.oamSize m.oam
    && Memory.wf Config.ioSize m.io && Memory.wf Config.zpSize m.zp

/-! ### The address map (R72) -/

/-- The byte cell an address selects when no overlay is in the way: a buffer and an index in it (R72). -/
inductive Slot where
  | rom (i : Nat)
  | vram (i : Nat)
  | eram (i : Nat)
  | wram (i : Nat)
  | oam (i : Nat)
  | unused
  | io (i : Nat)
  | zp (i : Nat)
  | ie
  deriving DecidableEq, Repr

/-- R72, R74: the dispatch of an address. `a & 0x1FFF` is written `a % 0x2000`, and `a & 0x7F` is `a % 0x80`. -/
def slotOf (addr : Word) : Slot :=
  let a := addr.toNat
  if a ≤ 0x7FFF then .rom a
  else if a ≤ 0x9FFF then .vram (a % 0x2000)
  else if a ≤ 0xBFFF then .eram (a % 0x2000)
  else if a ≤ 0xDFFF then .wram (a % 0x2000)
  else if a ≤ 0xFDFF then .wram (a % 0x2000)
  else if a ≤ 0xFE9F then .oam (a - 0xFE00)
  else if a ≤ 0xFEFF then .unused
  else if a ≤ 0xFF7F then .io (a % 0x80)
  else if a ≤ 0xFFFE then .zp (a % 0x80)
  else .ie

/-- R47: the interrupt-request byte IF. -/
def ifAddr : Word := 0xFF0F

/-- R48: the BIOS-unmap register BOOT. -/
def bootAddr : Word := 0xFF50

/-- Whether a read of an address is served by the BIOS overlay (R77). -/
def Mmu.overlaid (m : Mmu) (addr : Word) : Bool := m.inBios && decide (addr.toNat ≤ 0x00FF)

/-- The byte in a cell, or `UnmappedRegion` where the ROM is absent (R75's `ROMread`, R87). -/
def Mmu.readSlot (m : Mmu) (addr : Word) : Slot → Except Fault Byte
  | .rom i =>
    match m.rom with
    | none => .error (.unmappedRegion addr)
    | some r => .ok (Memory.get r i)
  | .vram i => .ok (Memory.get m.vram i)
  | .eram i => .ok (Memory.get m.eram i)
  | .wram i => .ok (Memory.get m.wram i)
  | .oam i => .ok (Memory.get m.oam i)
  | .unused => .ok 0x00
  | .io i => .ok (Memory.get m.io i)
  | .zp i => .ok (Memory.get m.zp i)
  | .ie => .ok m.ie

/-- R75, R77: `readByte`. The spec says the BIOS buffer exists whenever inBIOS is true (R77). In a state where it does not,
which no run reaches, the read faults as a region with no buffer does (R87; DEDUCED, log entry 3). -/
def Mmu.readByte (m : Mmu) (addr : Word) : Except Fault Byte :=
  if m.overlaid addr then
    match m.bios with
    | none => .error (.unmappedRegion addr)
    | some img => .ok (Memory.get img addr.toNat)
  else m.readSlot addr (slotOf addr)

/-- R76, R84: `writeByte`. A write never reaches the BIOS (D4), and a write to 0xFF50 also clears inBIOS (D1, D2). -/
def Mmu.writeByte (m : Mmu) (addr : Word) (v : Byte) : Except Fault Mmu :=
  match slotOf addr with
  | .rom i =>
    match m.rom with
    | none => .error (.unmappedRegion addr)
    | some r => .ok { m with rom := some (Memory.set r i v) }
  | .vram i => .ok { m with vram := Memory.set m.vram i v }
  | .eram i => .ok { m with eram := Memory.set m.eram i v }
  | .wram i => .ok { m with wram := Memory.set m.wram i v }
  | .oam i => .ok { m with oam := Memory.set m.oam i v }
  | .unused => .ok m
  | .io i => .ok { m with io := Memory.set m.io i v, inBios := if addr = bootAddr then false else m.inBios }
  | .zp i => .ok { m with zp := Memory.set m.zp i v }
  | .ie => .ok { m with ie := v }

/-- R88: `readWord`, low byte at `addr`, high byte at `addr + 1` (mod 0x10000, D16). -/
def Mmu.readWord (m : Mmu) (addr : Word) : Except Fault Word :=
  (m.readByte addr).bind fun lo => (m.readByte (addr + 1)).map fun hi => (hi ++ lo : Word)

/-- R89: `writeWord`, the low byte first, then the high byte (D16). -/
def Mmu.writeWord (m : Mmu) (addr : Word) (v : Word) : Except Fault Mmu :=
  (m.writeByte addr (lo8 v)).bind fun m' => m'.writeByte (addr + 1) (hi8 v)

/-! ### The state's own operations -/

/-- A change of the register file. -/
def State.withRegs (s : State) (r : Regs) : State := { s with regs := r }

/-- A change of the MMU. -/
def State.withMmu (s : State) (m : Mmu) : State := { s with mmu := m }

/-- R12: `PC <- target`. -/
def State.jump (s : State) (target : Word) : State := { s with regs := { s.regs with pc := target } }

/-- R38: PC passes `n` fetched bytes, mod 0x10000. -/
def State.advance (s : State) (n : Nat) : State := s.jump (s.regs.pc + BitVec.ofNat 16 n)

/-- R131: `n` M-cycles. -/
def State.tick (s : State) (n : Nat) : State := { s with clock := s.clock + n }

/-- A write of SP. -/
def State.setSP (s : State) (v : Word) : State := { s with regs := { s.regs with sp := v } }

/-- A change of the run state. -/
def State.setRunState (s : State) (r : RunState) : State := { s with runState := r }

/-- A change of the two interrupt latches (R43, R44). -/
def State.setIme (s : State) (ime eiPending : Bool) : State := { s with ime := ime, eiPending := eiPending }

/-- R11: `MemRead(addr, 1)`. -/
def State.load (s : State) (addr : Word) : Except Fault Byte := s.mmu.readByte addr

/-- R11: `MemWrite(addr, 1, v)`. -/
def State.store (s : State) (addr : Word) (v : Byte) : Except Fault State := (s.mmu.writeByte addr v).map s.withMmu

/-- R11: `MemWrite(addr, 2, v)`. -/
def State.storeWord (s : State) (addr : Word) (v : Word) : Except Fault State := (s.mmu.writeWord addr v).map s.withMmu

/-- R12: `Push16(v)`. -/
def State.push16 (s : State) (v : Word) : Except Fault State := (s.setSP (s.regs.sp - 2)).storeWord (s.regs.sp - 2) v

/-- R12: `Pop16()`, the word and the state after it. -/
def State.pop16 (s : State) : Except Fault (Word × State) :=
  (s.mmu.readWord s.regs.sp).map fun v => (v, s.setSP (s.regs.sp + 2))

/-! ### Faults (60_exceptions.md, section 1) -/

/-- R500: what a step that raises `e` leaves: the state before it, with PC past the `k` opcode bytes fetched and `e` latched. -/
def State.takeFault (s : State) (k : Nat) (e : Fault) : State := { s.advance k with fault := some e }

/-- An instruction's execution, from the state with PC at its first byte: `k` opcode bytes and `len` bytes in all have been
fetched, its body runs with PC past the whole instruction (R38) and takes `cycles` M-cycles (R131). A body that raises a fault
is undone (R500). -/
def execute (k len cycles : Nat) (body : State → Except Fault State) (s : State) : Host.Outcome State Fault Refusal :=
  match body (s.advance len) with
  | .ok t => .next (t.tick cycles)
  | .error e => .next (s.takeFault k e)

/-- An instruction of the primary table: one opcode byte. -/
def primary (len cycles : Nat) (body : State → Except Fault State) (s : State) : Host.Outcome State Fault Refusal :=
  execute 1 len cycles body s

/-- An instruction of the CB table: two opcode bytes, no operand byte (R120). -/
def prefixed (cycles : Nat) (body : State → Except Fault State) (s : State) : Host.Outcome State Fault Refusal :=
  execute 2 2 cycles body s

/-- A body that cannot fault. -/
def unfailing (f : State → State) (s : State) : Except Fault State := .ok (f s)

/-! ### Interrupts (60_exceptions.md, section 2) -/

/-- The IF byte: the I/O byte at index 0x0F (R47). -/
def Mmu.iflag (m : Mmu) : Byte := Memory.get m.io 0x0F

/-- R504: `IE & IF & 0x1F`. -/
def State.pending (s : State) : Byte := s.mmu.ie &&& s.mmu.iflag &&& 0x1F

/-- The number of the lowest bit set (R506: "VBlank first, Joypad last"); 4 where bits 0 to 3 are clear. -/
def lowestBit (p : Byte) : Nat :=
  if p.getLsbD 0 then 0
  else if p.getLsbD 1 then 1
  else if p.getLsbD 2 then 2
  else if p.getLsbD 3 then 3
  else 4

/-- R502, R506: the vector of interrupt `k`. -/
def vector (k : Nat) : Word := BitVec.ofNat 16 (0x0040 + 8 * k)

/-- R506: taking an interrupt, without its 5 M-cycles: IME and ei_pending clear, the IF bit of the interrupt served is cleared,
PC is pushed, PC goes to the vector. -/
def State.dispatch (s : State) : Except Fault State :=
  let k := lowestBit s.pending
  ((s.setIme false false).store ifAddr (s.mmu.iflag &&& ~~~(1#8 <<< k))).bind fun t =>
    (t.push16 s.regs.pc).map fun u => u.jump (vector k)

/-- R506, R500: the step that takes an interrupt in `s`: 5 M-cycles, or the fault of the push, with no opcode byte fetched. `s0`
is the state before the step; it differs from `s` only where the step has woken a halted core (R507). -/
def interruptStep (s0 s : State) : Host.Outcome State Fault Refusal :=
  match s.dispatch with
  | .ok t => .next (t.tick 5)
  | .error e => .next (s0.takeFault 0 e)

/-- R297, R511: the return from an interrupt handler: PC is popped and IME is set at once; ei_pending stays (D12). -/
def State.returnFromInterrupt (s : State) : Except Fault State :=
  s.pop16.map fun (v, t) => (t.jump v).setIme true t.eiPending

end Sys2Proof.Machine
end

