-- ==== Sys2Proof/Machine/Flags.lean ====
section
/-! DEFINITION. The flag register F (R32, R35) and every flag computation of the spec: the 8-bit ALU (40_alu8.md), the 16-bit
sums (41_alu16.md), DAA (R229), the rotates and shifts (R233 to R236, R401 to R408). Sums are taken on unbounded numbers and
cut to their width at the end (R8). -/

namespace Sys2Proof.Machine

/-- The four flags (R35). -/
structure Flags where
  z : Bool
  n : Bool
  h : Bool
  c : Bool
  deriving DecidableEq, Repr

/-- R35: "F layout: `Z N H C 0 0 0 0`". -/
def Flags.pack (x : Flags) : Byte :=
  (if x.z then 0x80 else 0) ||| (if x.n then 0x40 else 0) ||| (if x.h then 0x20 else 0) ||| (if x.c then 0x10 else 0)

/-- The flags that F holds (R35). -/
def Regs.flags (r : Regs) : Flags :=
  { z := r.f.getLsbD 7, n := r.f.getLsbD 6, h := r.f.getLsbD 5, c := r.f.getLsbD 4 }

/-- The flags of a state. -/
def State.flags (s : State) : Flags := s.regs.flags

/-- R32: a write of F; its low nibble is forced to zero by `Flags.pack`. -/
def State.setFlags (s : State) (x : Flags) : State := { s with regs := { s.regs with f := x.pack } }

/-- The carry flag as a number. -/
def carryBit (c : Bool) : Nat := if c then 1 else 0

/-- An 8-bit result with the flags it sets. -/
structure Result8 where
  value : Byte
  flags : Flags
  deriving DecidableEq, Repr

/-- R201, R204: `A + v + c`. -/
def add8 (a v : Byte) (c : Bool) : Result8 :=
  let res := a.toNat + v.toNat + carryBit c
  { value := BitVec.ofNat 8 res
    flags :=
      { z := decide (res % 0x100 = 0)
        n := false
        h := decide (a.toNat % 0x10 + v.toNat % 0x10 + carryBit c > 0xF)
        c := decide (res > 0xFF) } }

/-- R207, R210: `A - v - c`, on the integers, then cut to 8 bits. -/
def sub8 (a v : Byte) (c : Bool) : Result8 :=
  let res : Int := (a.toNat : Int) - v.toNat - carryBit c
  { value := BitVec.ofInt 8 res
    flags :=
      { z := decide (res % 0x100 = 0)
        n := true
        h := decide (a.toNat % 0x10 < v.toNat % 0x10 + carryBit c)
        c := decide (a.toNat < v.toNat + carryBit c) } }

/-- R213: AND sets H. -/
def and8 (a v : Byte) : Result8 :=
  { value := a &&& v, flags := { z := decide (a &&& v = 0), n := false, h := true, c := false } }

/-- R216. -/
def xor8 (a v : Byte) : Result8 :=
  { value := a ^^^ v, flags := { z := decide (a ^^^ v = 0), n := false, h := false, c := false } }

/-- R219. -/
def or8 (a v : Byte) : Result8 :=
  { value := a ||| v, flags := { z := decide (a ||| v = 0), n := false, h := false, c := false } }

/-- R129, R201 to R224: the eight ALU operations on A, the operand and the carry flag. CP's value is SUB's; it is not stored. -/
def aluResult (op : AluOp) (a v : Byte) (c : Bool) : Result8 :=
  match op with
  | .add => add8 a v false
  | .adc => add8 a v c
  | .sub => sub8 a v false
  | .sbc => sub8 a v c
  | .and => and8 a v
  | .xor => xor8 a v
  | .or => or8 a v
  | .cp => sub8 a v false

/-- R225: 8-bit INC; C is passed through. -/
def inc8 (v : Byte) (c : Bool) : Result8 :=
  { value := BitVec.ofNat 8 (v.toNat + 1)
    flags := { z := decide ((v.toNat + 1) % 0x100 = 0), n := false, h := decide (v.toNat % 0x10 + 1 > 0xF), c := c } }

/-- R227: 8-bit DEC; C is passed through. -/
def dec8 (v : Byte) (c : Bool) : Result8 :=
  { value := BitVec.ofInt 8 ((v.toNat : Int) - 1)
    flags := { z := decide (((v.toNat : Int) - 1) % 0x100 = 0), n := true, h := decide (v.toNat % 0x10 = 0), c := c } }

/-- R229: DAA, the document's algorithm. Both tests of the add branch read A before it is adjusted. -/
def daa8 (a : Byte) (x : Flags) : Result8 :=
  if x.n then
    let correction : Byte := (if x.h then 0x06 else 0) ||| (if x.c then 0x60 else 0)
    let value := a - correction
    { value := value, flags := { z := decide (value = 0), n := true, h := false, c := x.c } }
  else
    let low := x.h || decide (a.toNat % 0x10 > 9)
    let high := x.c || decide (a.toNat > 0x99)
    let correction : Byte := (if low then 0x06 else 0) ||| (if high then 0x60 else 0)
    let value := a + correction
    { value := value, flags := { z := decide (value = 0), n := false, h := false, c := high } }

/-- The value a rotate or shift gives, and the bit it ejects (R401 to R408); SWAP ejects 0. `c` is the carry flag before it. -/
def shiftValue (op : ShiftOp) (v : Byte) (c : Bool) : Byte × Bool :=
  let b7 := v.getLsbD 7
  let b0 := v.getLsbD 0
  match op with
  | .rlc => ((v <<< 1) ||| (if b7 then 0x01 else 0), b7)
  | .rrc => ((v >>> 1) ||| (if b0 then 0x80 else 0), b0)
  | .rl => ((v <<< 1) ||| (if c then 0x01 else 0), b7)
  | .rr => ((v >>> 1) ||| (if c then 0x80 else 0), b0)
  | .sla => (v <<< 1, b7)
  | .sra => ((v >>> 1) ||| (v &&& 0x80), b0)
  | .swap => ((v &&& 0x0F) <<< 4 ||| v >>> 4, false)
  | .srl => (v >>> 1, b0)

/-- R400: the CB rotates, shifts and SWAP compute Z from the result and clear N and H. -/
def shift8 (op : ShiftOp) (v : Byte) (c : Bool) : Result8 :=
  let r := shiftValue op v c
  { value := r.1, flags := { z := decide (r.1 = 0), n := false, h := false, c := r.2 } }

/-- R233 to R236: RLCA, RRCA, RLA and RRA are the same rotates of A with Z cleared. -/
def rotateA8 (op : ShiftOp) (v : Byte) (c : Bool) : Result8 :=
  let r := shiftValue op v c
  { value := r.1, flags := { z := false, n := false, h := false, c := r.2 } }

/-- R409: BIT b sets Z when the bit is 0, clears N, sets H and keeps C. -/
def bitFlags (b : Idx8) (v : Byte) (c : Bool) : Flags :=
  { z := !v.getLsbD b.num, n := false, h := true, c := c }

/-- A 16-bit result with the flags it sets. -/
structure Result16 where
  value : Word
  flags : Flags
  deriving DecidableEq, Repr

/-- R263: `HL + rr`: H from bit 11, C from bit 15, Z passed through. -/
def addHL16 (h v : Word) (z : Bool) : Result16 :=
  let res := h.toNat + v.toNat
  { value := BitVec.ofNat 16 res
    flags := { z := z, n := false, h := decide (h.toNat % 0x1000 + v.toNat % 0x1000 > 0xFFF), c := decide (res > 0xFFFF) } }

/-- R9: `sext_16`, the signed value of a byte as a 16-bit word. -/
def sext16 (e : Byte) : Word := e.signExtend 16

/-- R264, R362: `SP + e8`: H and C are the carries out of bits 3 and 7 of the unsigned sum of SP's low byte and the raw operand;
Z and N are 0. -/
def addSP16 (sp : Word) (e : Byte) : Result16 :=
  { value := sp + sext16 e
    flags :=
      { z := false
        n := false
        h := decide (sp.toNat % 0x10 + e.toNat % 0x10 > 0xF)
        c := decide (sp.toNat % 0x100 + e.toNat > 0xFF) } }

end Sys2Proof.Machine
end

