-- ==== Sys2Proof/Machine/Operands.lean ====
section
/-! DEFINITION. Every operand form: the 8-bit operands of R124 (a register or the byte at HL), the register pairs of R33, R125 and
R126, the accumulator's pointers, the high page of R354 to R357, and the conditions of R128. -/

namespace Sys2Proof.Machine

/-! ### 8-bit operands -/

/-- A read of a register (R31). -/
def Regs.get8 (r : Regs) : Reg8 → Byte
  | .b => r.b
  | .c => r.c
  | .d => r.d
  | .e => r.e
  | .h => r.h
  | .l => r.l
  | .a => r.a

/-- A write of a register (R31). -/
def Regs.set8 (r : Regs) (x : Reg8) (v : Byte) : Regs :=
  match x with
  | .b => { r with b := v }
  | .c => { r with c := v }
  | .d => { r with d := v }
  | .e => { r with e := v }
  | .h => { r with h := v }
  | .l => { r with l := v }
  | .a => { r with a := v }

/-- A write of a register of a state. -/
def State.set8 (s : State) (x : Reg8) (v : Byte) : State := { s with regs := s.regs.set8 x v }

/-! ### Register pairs (R33, R34) -/

/-- R33: the pair views are `(high << 8) | low`. -/
def Regs.af (r : Regs) : Word := r.a ++ r.f

/-- R33. -/
def Regs.bc (r : Regs) : Word := r.b ++ r.c

/-- R33. -/
def Regs.de (r : Regs) : Word := r.d ++ r.e

/-- R33. -/
def Regs.hl (r : Regs) : Word := r.h ++ r.l

/-- R125: a read of `rp[p]`. -/
def Regs.get16 (r : Regs) : Pair → Word
  | .bc => r.bc
  | .de => r.de
  | .hl => r.hl
  | .sp => r.sp

/-- R33, R125: a write of `rp[p]`: bits 15..8 to the high register, bits 7..0 to the low one. -/
def Regs.set16 (r : Regs) (p : Pair) (v : Word) : Regs :=
  match p with
  | .bc => { r with b := hi8 v, c := lo8 v }
  | .de => { r with d := hi8 v, e := lo8 v }
  | .hl => { r with h := hi8 v, l := lo8 v }
  | .sp => { r with sp := v }

/-- A write of a pair of a state. -/
def State.set16 (s : State) (p : Pair) (v : Word) : State := { s with regs := s.regs.set16 p v }

/-- R126: a read of `rp2[p]`. -/
def Regs.getStack (r : Regs) : StackPair → Word
  | .bc => r.bc
  | .de => r.de
  | .hl => r.hl
  | .af => r.af

/-- R33, R34, R301: a write of `rp2[p]`; a write of AF masks F's low nibble. -/
def Regs.setStack (r : Regs) (p : StackPair) (v : Word) : Regs :=
  match p with
  | .bc => { r with b := hi8 v, c := lo8 v }
  | .de => { r with d := hi8 v, e := lo8 v }
  | .hl => { r with h := hi8 v, l := lo8 v }
  | .af => { r with a := hi8 v, f := lo8 v &&& 0xF0 }

/-- A write of a stack pair of a state. -/
def State.setStack (s : State) (p : StackPair) (v : Word) : State := { s with regs := s.regs.setStack p v }

/-- The address that `LD A,(rr)` and `LD (rr),A` go through (R346 to R349). -/
def Regs.ptr (r : Regs) : PtrPair → Word
  | .bc => r.bc
  | .de => r.de

/-- R127, R340: `0xFF00 + n`. -/
def highPage (n : Byte) : Word := (0xFF : Byte) ++ n

/-! ### The operand `r8[i]` (R124) -/

/-- A read of an 8-bit operand: a register, or `MemRead(HL, 1)`. -/
def State.readOpnd (s : State) : Opnd8 → Except Fault Byte
  | .reg r => .ok (s.regs.get8 r)
  | .mHL => s.load s.regs.hl

/-- A write of an 8-bit operand: a register, or `MemWrite(HL, 1, v)`. -/
def State.writeOpnd (s : State) (o : Opnd8) (v : Byte) : Except Fault State :=
  match o with
  | .reg r => .ok (s.set8 r v)
  | .mHL => s.store s.regs.hl v

/-- One count for the register operands, another for `(HL)` (R142, R143). -/
def operandCycles (o : Opnd8) (reg mem : Nat) : Nat :=
  match o with
  | .reg _ => reg
  | .mHL => mem

/-! ### Conditions (R128) -/

/-- `cond(cc)`. N and H are never tested. -/
def Flags.holds (x : Flags) : Cond → Bool
  | .nz => !x.z
  | .z => x.z
  | .nc => !x.c
  | .c => x.c

end Sys2Proof.Machine
end

