-- ==== Sys2Proof/Machine/Alu16.lean ====
section
/-! DEFINITION. 16-bit arithmetic (41_alu16.md, R260 to R264): the shared bodies, then one definition per row of the opcode
table. -/

namespace Sys2Proof.Machine

/-- R261: INC rr; no flag changes. -/
def incPair (p : Pair) : State → Host.Outcome State Fault Refusal :=
  primary 1 2 (unfailing fun s => s.set16 p (s.regs.get16 p + 1))

/-- R262: DEC rr; no flag changes (D35). -/
def decPair (p : Pair) : State → Host.Outcome State Fault Refusal :=
  primary 1 2 (unfailing fun s => s.set16 p (s.regs.get16 p - 1))

/-- R263: ADD HL,rr; Z is not written. -/
def addHLPair (p : Pair) : State → Host.Outcome State Fault Refusal :=
  primary 1 2 (unfailing fun s =>
    let r := addHL16 s.regs.hl (s.regs.get16 p) s.flags.z
    (s.set16 .hl r.value).setFlags r.flags)

/-- R264: ADD SP,e8. -/
def addSPBody (e8 : Byte) (s : State) : State :=
  let r := addSP16 s.regs.sp e8
  (s.setSP r.value).setFlags r.flags

/-! ### The rows of the opcode table -/

/-- 0x03 `INC BC` (R261). -/
def execInc_BC (s : State) : Host.Outcome State Fault Refusal := incPair .bc s

/-- 0x09 `ADD HL,BC` (R263). -/
def execAdd_HL_BC (s : State) : Host.Outcome State Fault Refusal := addHLPair .bc s

/-- 0x0B `DEC BC` (R262). -/
def execDec_BC (s : State) : Host.Outcome State Fault Refusal := decPair .bc s

/-- 0x13 `INC DE` (R261). -/
def execInc_DE (s : State) : Host.Outcome State Fault Refusal := incPair .de s

/-- 0x19 `ADD HL,DE` (R263). -/
def execAdd_HL_DE (s : State) : Host.Outcome State Fault Refusal := addHLPair .de s

/-- 0x1B `DEC DE` (R262). -/
def execDec_DE (s : State) : Host.Outcome State Fault Refusal := decPair .de s

/-- 0x23 `INC HL` (R261). -/
def execInc_HL (s : State) : Host.Outcome State Fault Refusal := incPair .hl s

/-- 0x29 `ADD HL,HL` (R263). -/
def execAdd_HL_HL (s : State) : Host.Outcome State Fault Refusal := addHLPair .hl s

/-- 0x2B `DEC HL` (R262). -/
def execDec_HL (s : State) : Host.Outcome State Fault Refusal := decPair .hl s

/-- 0x33 `INC SP` (R261). -/
def execInc_SP (s : State) : Host.Outcome State Fault Refusal := incPair .sp s

/-- 0x39 `ADD HL,SP` (R263). -/
def execAdd_HL_SP (s : State) : Host.Outcome State Fault Refusal := addHLPair .sp s

/-- 0x3B `DEC SP` (R262). -/
def execDec_SP (s : State) : Host.Outcome State Fault Refusal := decPair .sp s

/-- 0xE8 `ADD SP,e8` (R264). -/
def execAdd_SP_e8 (e8 : Byte) (s : State) : Host.Outcome State Fault Refusal := primary 2 4 (unfailing (addSPBody e8)) s

end Sys2Proof.Machine
end

