-- ==== Sys2Proof/Machine/Alu8.lean ====
section
/-! DEFINITION. 8-bit arithmetic, logic and accumulator instructions (40_alu8.md, R200 to R236): the shared bodies, then one
definition per row of the opcode table. -/

namespace Sys2Proof.Machine

/-- R201 to R224: the operation's value goes to A (CP stores none: "CP is SUB without storing.") and its flags to F. -/
def State.alu (op : AluOp) (s : State) (v : Byte) : State :=
  let r := aluResult op s.regs.a v s.flags.c
  if op = .cp then s.setFlags r.flags else (s.set8 .a r.value).setFlags r.flags

/-- `alu r` and `alu (HL)`: 1 or 2 M-cycles. -/
def aluOpnd (op : AluOp) (o : Opnd8) : State → Host.Outcome State Fault Refusal :=
  primary 1 (operandCycles o 1 2) fun s => (s.readOpnd o).map (s.alu op)

/-- `alu d8`. -/
def aluImm (op : AluOp) (d8 : Byte) : State → Host.Outcome State Fault Refusal :=
  primary 2 2 (unfailing fun s => s.alu op d8)

/-- R225, R226: INC of a register or of the byte at HL; the flags are written before the operand. -/
def incOpnd (o : Opnd8) : State → Host.Outcome State Fault Refusal :=
  primary 1 (operandCycles o 1 3) fun s => (s.readOpnd o).bind fun v =>
    let r := inc8 v s.flags.c
    (s.setFlags r.flags).writeOpnd o r.value

/-- R227, R228: DEC of a register or of the byte at HL. -/
def decOpnd (o : Opnd8) : State → Host.Outcome State Fault Refusal :=
  primary 1 (operandCycles o 1 3) fun s => (s.readOpnd o).bind fun v =>
    let r := dec8 v s.flags.c
    (s.setFlags r.flags).writeOpnd o r.value

/-- R229: DAA. -/
def daaBody (s : State) : State :=
  let r := daa8 s.regs.a s.flags
  (s.set8 .a r.value).setFlags r.flags

/-- R230: CPL, with the contract's N = 1 and H = 1 (90_conflicts.md C2). -/
def cplBody (s : State) : State :=
  (s.set8 .a (s.regs.a ^^^ 0xFF)).setFlags { s.flags with n := true, h := true }

/-- R231: SCF. -/
def scfBody (s : State) : State := s.setFlags { s.flags with n := false, h := false, c := true }

/-- R232: CCF. -/
def ccfBody (s : State) : State := s.setFlags { s.flags with n := false, h := false, c := !s.flags.c }

/-- R233 to R236: RLCA, RRCA, RLA, RRA. -/
def rotateABody (op : ShiftOp) (s : State) : State :=
  let r := rotateA8 op s.regs.a s.flags.c
  (s.set8 .a r.value).setFlags r.flags

/-! ### The rows of the opcode table -/

/-- 0x04 `INC B` (R225). -/
def execInc_B (s : State) : Host.Outcome State Fault Refusal := incOpnd (.reg .b) s

/-- 0x05 `DEC B` (R227). -/
def execDec_B (s : State) : Host.Outcome State Fault Refusal := decOpnd (.reg .b) s

/-- 0x07 `RLCA` (R233). -/
def execRlca (s : State) : Host.Outcome State Fault Refusal := primary 1 1 (unfailing (rotateABody .rlc)) s

/-- 0x0C `INC C` (R225). -/
def execInc_C (s : State) : Host.Outcome State Fault Refusal := incOpnd (.reg .c) s

/-- 0x0D `DEC C` (R227). -/
def execDec_C (s : State) : Host.Outcome State Fault Refusal := decOpnd (.reg .c) s

/-- 0x0F `RRCA` (R234). -/
def execRrca (s : State) : Host.Outcome State Fault Refusal := primary 1 1 (unfailing (rotateABody .rrc)) s

/-- 0x14 `INC D` (R225). -/
def execInc_D (s : State) : Host.Outcome State Fault Refusal := incOpnd (.reg .d) s

/-- 0x15 `DEC D` (R227). -/
def execDec_D (s : State) : Host.Outcome State Fault Refusal := decOpnd (.reg .d) s

/-- 0x17 `RLA` (R235). -/
def execRla (s : State) : Host.Outcome State Fault Refusal := primary 1 1 (unfailing (rotateABody .rl)) s

/-- 0x1C `INC E` (R225). -/
def execInc_E (s : State) : Host.Outcome State Fault Refusal := incOpnd (.reg .e) s

/-- 0x1D `DEC E` (R227). -/
def execDec_E (s : State) : Host.Outcome State Fault Refusal := decOpnd (.reg .e) s

/-- 0x1F `RRA` (R236). -/
def execRra (s : State) : Host.Outcome State Fault Refusal := primary 1 1 (unfailing (rotateABody .rr)) s

/-- 0x24 `INC H` (R225). -/
def execInc_H (s : State) : Host.Outcome State Fault Refusal := incOpnd (.reg .h) s

/-- 0x25 `DEC H` (R227). -/
def execDec_H (s : State) : Host.Outcome State Fault Refusal := decOpnd (.reg .h) s

/-- 0x27 `DAA` (R229). -/
def execDaa (s : State) : Host.Outcome State Fault Refusal := primary 1 1 (unfailing daaBody) s

/-- 0x2C `INC L` (R225). -/
def execInc_L (s : State) : Host.Outcome State Fault Refusal := incOpnd (.reg .l) s

/-- 0x2D `DEC L` (R227). -/
def execDec_L (s : State) : Host.Outcome State Fault Refusal := decOpnd (.reg .l) s

/-- 0x2F `CPL` (R230). -/
def execCpl (s : State) : Host.Outcome State Fault Refusal := primary 1 1 (unfailing cplBody) s

/-- 0x34 `INC (HL)` (R226). -/
def execInc_mHL (s : State) : Host.Outcome State Fault Refusal := incOpnd .mHL s

/-- 0x35 `DEC (HL)` (R228). -/
def execDec_mHL (s : State) : Host.Outcome State Fault Refusal := decOpnd .mHL s

/-- 0x37 `SCF` (R231). -/
def execScf (s : State) : Host.Outcome State Fault Refusal := primary 1 1 (unfailing scfBody) s

/-- 0x3C `INC A` (R225). -/
def execInc_A (s : State) : Host.Outcome State Fault Refusal := incOpnd (.reg .a) s

/-- 0x3D `DEC A` (R227). -/
def execDec_A (s : State) : Host.Outcome State Fault Refusal := decOpnd (.reg .a) s

/-- 0x3F `CCF` (R232). -/
def execCcf (s : State) : Host.Outcome State Fault Refusal := primary 1 1 (unfailing ccfBody) s

/-- 0x80 `ADD A,B` (R201). -/
def execAdd_A_B (s : State) : Host.Outcome State Fault Refusal := aluOpnd .add (.reg .b) s

/-- 0x81 `ADD A,C` (R201). -/
def execAdd_A_C (s : State) : Host.Outcome State Fault Refusal := aluOpnd .add (.reg .c) s

/-- 0x82 `ADD A,D` (R201). -/
def execAdd_A_D (s : State) : Host.Outcome State Fault Refusal := aluOpnd .add (.reg .d) s

/-- 0x83 `ADD A,E` (R201). -/
def execAdd_A_E (s : State) : Host.Outcome State Fault Refusal := aluOpnd .add (.reg .e) s

/-- 0x84 `ADD A,H` (R201). -/
def execAdd_A_H (s : State) : Host.Outcome State Fault Refusal := aluOpnd .add (.reg .h) s

/-- 0x85 `ADD A,L` (R201). -/
def execAdd_A_L (s : State) : Host.Outcome State Fault Refusal := aluOpnd .add (.reg .l) s

/-- 0x86 `ADD A,(HL)` (R202). -/
def execAdd_A_mHL (s : State) : Host.Outcome State Fault Refusal := aluOpnd .add .mHL s

/-- 0x87 `ADD A,A` (R201). -/
def execAdd_A_A (s : State) : Host.Outcome State Fault Refusal := aluOpnd .add (.reg .a) s

/-- 0x88 `ADC A,B` (R204). -/
def execAdc_A_B (s : State) : Host.Outcome State Fault Refusal := aluOpnd .adc (.reg .b) s

/-- 0x89 `ADC A,C` (R204). -/
def execAdc_A_C (s : State) : Host.Outcome State Fault Refusal := aluOpnd .adc (.reg .c) s

/-- 0x8A `ADC A,D` (R204). -/
def execAdc_A_D (s : State) : Host.Outcome State Fault Refusal := aluOpnd .adc (.reg .d) s

/-- 0x8B `ADC A,E` (R204). -/
def execAdc_A_E (s : State) : Host.Outcome State Fault Refusal := aluOpnd .adc (.reg .e) s

/-- 0x8C `ADC A,H` (R204). -/
def execAdc_A_H (s : State) : Host.Outcome State Fault Refusal := aluOpnd .adc (.reg .h) s

/-- 0x8D `ADC A,L` (R204). -/
def execAdc_A_L (s : State) : Host.Outcome State Fault Refusal := aluOpnd .adc (.reg .l) s

/-- 0x8E `ADC A,(HL)` (R205). -/
def execAdc_A_mHL (s : State) : Host.Outcome State Fault Refusal := aluOpnd .adc .mHL s

/-- 0x8F `ADC A,A` (R204). -/
def execAdc_A_A (s : State) : Host.Outcome State Fault Refusal := aluOpnd .adc (.reg .a) s

/-- 0x90 `SUB B` (R207). -/
def execSub_B (s : State) : Host.Outcome State Fault Refusal := aluOpnd .sub (.reg .b) s

/-- 0x91 `SUB C` (R207). -/
def execSub_C (s : State) : Host.Outcome State Fault Refusal := aluOpnd .sub (.reg .c) s

/-- 0x92 `SUB D` (R207). -/
def execSub_D (s : State) : Host.Outcome State Fault Refusal := aluOpnd .sub (.reg .d) s

/-- 0x93 `SUB E` (R207). -/
def execSub_E (s : State) : Host.Outcome State Fault Refusal := aluOpnd .sub (.reg .e) s

/-- 0x94 `SUB H` (R207). -/
def execSub_H (s : State) : Host.Outcome State Fault Refusal := aluOpnd .sub (.reg .h) s

/-- 0x95 `SUB L` (R207). -/
def execSub_L (s : State) : Host.Outcome State Fault Refusal := aluOpnd .sub (.reg .l) s

/-- 0x96 `SUB (HL)` (R208). -/
def execSub_mHL (s : State) : Host.Outcome State Fault Refusal := aluOpnd .sub .mHL s

/-- 0x97 `SUB A` (R207). -/
def execSub_A (s : State) : Host.Outcome State Fault Refusal := aluOpnd .sub (.reg .a) s

/-- 0x98 `SBC A,B` (R210). -/
def execSbc_A_B (s : State) : Host.Outcome State Fault Refusal := aluOpnd .sbc (.reg .b) s

/-- 0x99 `SBC A,C` (R210). -/
def execSbc_A_C (s : State) : Host.Outcome State Fault Refusal := aluOpnd .sbc (.reg .c) s

/-- 0x9A `SBC A,D` (R210). -/
def execSbc_A_D (s : State) : Host.Outcome State Fault Refusal := aluOpnd .sbc (.reg .d) s

/-- 0x9B `SBC A,E` (R210). -/
def execSbc_A_E (s : State) : Host.Outcome State Fault Refusal := aluOpnd .sbc (.reg .e) s

/-- 0x9C `SBC A,H` (R210). -/
def execSbc_A_H (s : State) : Host.Outcome State Fault Refusal := aluOpnd .sbc (.reg .h) s

/-- 0x9D `SBC A,L` (R210). -/
def execSbc_A_L (s : State) : Host.Outcome State Fault Refusal := aluOpnd .sbc (.reg .l) s

/-- 0x9E `SBC A,(HL)` (R211). -/
def execSbc_A_mHL (s : State) : Host.Outcome State Fault Refusal := aluOpnd .sbc .mHL s

/-- 0x9F `SBC A,A` (R210). -/
def execSbc_A_A (s : State) : Host.Outcome State Fault Refusal := aluOpnd .sbc (.reg .a) s

/-- 0xA0 `AND B` (R213). -/
def execAnd_B (s : State) : Host.Outcome State Fault Refusal := aluOpnd .and (.reg .b) s

/-- 0xA1 `AND C` (R213). -/
def execAnd_C (s : State) : Host.Outcome State Fault Refusal := aluOpnd .and (.reg .c) s

/-- 0xA2 `AND D` (R213). -/
def execAnd_D (s : State) : Host.Outcome State Fault Refusal := aluOpnd .and (.reg .d) s

/-- 0xA3 `AND E` (R213). -/
def execAnd_E (s : State) : Host.Outcome State Fault Refusal := aluOpnd .and (.reg .e) s

/-- 0xA4 `AND H` (R213). -/
def execAnd_H (s : State) : Host.Outcome State Fault Refusal := aluOpnd .and (.reg .h) s

/-- 0xA5 `AND L` (R213). -/
def execAnd_L (s : State) : Host.Outcome State Fault Refusal := aluOpnd .and (.reg .l) s

/-- 0xA6 `AND (HL)` (R214). -/
def execAnd_mHL (s : State) : Host.Outcome State Fault Refusal := aluOpnd .and .mHL s

/-- 0xA7 `AND A` (R213). -/
def execAnd_A (s : State) : Host.Outcome State Fault Refusal := aluOpnd .and (.reg .a) s

/-- 0xA8 `XOR B` (R216). -/
def execXor_B (s : State) : Host.Outcome State Fault Refusal := aluOpnd .xor (.reg .b) s

/-- 0xA9 `XOR C` (R216). -/
def execXor_C (s : State) : Host.Outcome State Fault Refusal := aluOpnd .xor (.reg .c) s

/-- 0xAA `XOR D` (R216). -/
def execXor_D (s : State) : Host.Outcome State Fault Refusal := aluOpnd .xor (.reg .d) s

/-- 0xAB `XOR E` (R216). -/
def execXor_E (s : State) : Host.Outcome State Fault Refusal := aluOpnd .xor (.reg .e) s

/-- 0xAC `XOR H` (R216). -/
def execXor_H (s : State) : Host.Outcome State Fault Refusal := aluOpnd .xor (.reg .h) s

/-- 0xAD `XOR L` (R216). -/
def execXor_L (s : State) : Host.Outcome State Fault Refusal := aluOpnd .xor (.reg .l) s

/-- 0xAE `XOR (HL)` (R217). -/
def execXor_mHL (s : State) : Host.Outcome State Fault Refusal := aluOpnd .xor .mHL s

/-- 0xAF `XOR A` (R216). -/
def execXor_A (s : State) : Host.Outcome State Fault Refusal := aluOpnd .xor (.reg .a) s

/-- 0xB0 `OR B` (R219). -/
def execOr_B (s : State) : Host.Outcome State Fault Refusal := aluOpnd .or (.reg .b) s

/-- 0xB1 `OR C` (R219). -/
def execOr_C (s : State) : Host.Outcome State Fault Refusal := aluOpnd .or (.reg .c) s

/-- 0xB2 `OR D` (R219). -/
def execOr_D (s : State) : Host.Outcome State Fault Refusal := aluOpnd .or (.reg .d) s

/-- 0xB3 `OR E` (R219). -/
def execOr_E (s : State) : Host.Outcome State Fault Refusal := aluOpnd .or (.reg .e) s

/-- 0xB4 `OR H` (R219). -/
def execOr_H (s : State) : Host.Outcome State Fault Refusal := aluOpnd .or (.reg .h) s

/-- 0xB5 `OR L` (R219). -/
def execOr_L (s : State) : Host.Outcome State Fault Refusal := aluOpnd .or (.reg .l) s

/-- 0xB6 `OR (HL)` (R220). -/
def execOr_mHL (s : State) : Host.Outcome State Fault Refusal := aluOpnd .or .mHL s

/-- 0xB7 `OR A` (R219). -/
def execOr_A (s : State) : Host.Outcome State Fault Refusal := aluOpnd .or (.reg .a) s

/-- 0xB8 `CP B` (R222). -/
def execCp_B (s : State) : Host.Outcome State Fault Refusal := aluOpnd .cp (.reg .b) s

/-- 0xB9 `CP C` (R222). -/
def execCp_C (s : State) : Host.Outcome State Fault Refusal := aluOpnd .cp (.reg .c) s

/-- 0xBA `CP D` (R222). -/
def execCp_D (s : State) : Host.Outcome State Fault Refusal := aluOpnd .cp (.reg .d) s

/-- 0xBB `CP E` (R222). -/
def execCp_E (s : State) : Host.Outcome State Fault Refusal := aluOpnd .cp (.reg .e) s

/-- 0xBC `CP H` (R222). -/
def execCp_H (s : State) : Host.Outcome State Fault Refusal := aluOpnd .cp (.reg .h) s

/-- 0xBD `CP L` (R222). -/
def execCp_L (s : State) : Host.Outcome State Fault Refusal := aluOpnd .cp (.reg .l) s

/-- 0xBE `CP (HL)` (R223). -/
def execCp_mHL (s : State) : Host.Outcome State Fault Refusal := aluOpnd .cp .mHL s

/-- 0xBF `CP A` (R222). -/
def execCp_A (s : State) : Host.Outcome State Fault Refusal := aluOpnd .cp (.reg .a) s

/-- 0xC6 `ADD A,d8` (R203). -/
def execAdd_A_d8 (d8 : Byte) (s : State) : Host.Outcome State Fault Refusal := aluImm .add d8 s

/-- 0xCE `ADC A,d8` (R206). -/
def execAdc_A_d8 (d8 : Byte) (s : State) : Host.Outcome State Fault Refusal := aluImm .adc d8 s

/-- 0xD6 `SUB d8` (R209). -/
def execSub_d8 (d8 : Byte) (s : State) : Host.Outcome State Fault Refusal := aluImm .sub d8 s

/-- 0xDE `SBC A,d8` (R212). -/
def execSbc_A_d8 (d8 : Byte) (s : State) : Host.Outcome State Fault Refusal := aluImm .sbc d8 s

/-- 0xE6 `AND d8` (R215). -/
def execAnd_d8 (d8 : Byte) (s : State) : Host.Outcome State Fault Refusal := aluImm .and d8 s

/-- 0xEE `XOR d8` (R218). -/
def execXor_d8 (d8 : Byte) (s : State) : Host.Outcome State Fault Refusal := aluImm .xor d8 s

/-- 0xF6 `OR d8` (R221). -/
def execOr_d8 (d8 : Byte) (s : State) : Host.Outcome State Fault Refusal := aluImm .or d8 s

/-- 0xFE `CP d8` (R224). -/
def execCp_d8 (d8 : Byte) (s : State) : Host.Outcome State Fault Refusal := aluImm .cp d8 s

end Sys2Proof.Machine
end

