-- ==== Sys2Proof/Machine/Cb.lean ====
section
/-! DEFINITION. CB-prefixed instructions (45_cb.md, R400 to R411): the shared bodies, then one definition per row of the opcode
table. An operand is read once, at the start, and written once, at the end (R400). -/

namespace Sys2Proof.Machine

/-- R401 to R408: a rotate, a shift or SWAP of the operand. -/
def shiftOpnd (op : ShiftOp) (o : Opnd8) : State → Host.Outcome State Fault Refusal :=
  prefixed (operandCycles o 2 4) fun s => (s.readOpnd o).bind fun v =>
    let r := shift8 op v s.flags.c
    (s.writeOpnd o r.value).map fun t => t.setFlags r.flags

/-- R409: BIT b; the operand is not written. -/
def bitOpnd (b : Idx8) (o : Opnd8) : State → Host.Outcome State Fault Refusal :=
  prefixed (operandCycles o 2 3) fun s => (s.readOpnd o).map fun v => s.setFlags (bitFlags b v s.flags.c)

/-- R410: RES b; no flag changes, and the byte at HL is written back even when the bit was 0. -/
def resOpnd (b : Idx8) (o : Opnd8) : State → Host.Outcome State Fault Refusal :=
  prefixed (operandCycles o 2 4) fun s => (s.readOpnd o).bind fun v => s.writeOpnd o (v &&& ~~~(1#8 <<< b.num))

/-- R411: SET b; no flag changes. -/
def setOpnd (b : Idx8) (o : Opnd8) : State → Host.Outcome State Fault Refusal :=
  prefixed (operandCycles o 2 4) fun s => (s.readOpnd o).bind fun v => s.writeOpnd o (v ||| (1#8 <<< b.num))

/-- R130, R400: `ExecuteCB(cb)`, the instruction of the byte after the prefix by its fields x, y and z. -/
def cbExecute (cb : Byte) (s : State) : Host.Outcome State Fault Refusal :=
  match fieldX cb with
  | 0 => shiftOpnd (fieldY cb).shiftOp (fieldZ cb).opnd s
  | 1 => bitOpnd (fieldY cb) (fieldZ cb).opnd s
  | 2 => resOpnd (fieldY cb) (fieldZ cb).opnd s
  | _ => setOpnd (fieldY cb) (fieldZ cb).opnd s

/-! ### The rows of the opcode table -/

/-- 0xCB, the CB prefix: the instruction of the byte after it (R133). -/
def execCb_prefix (cb : Byte) (s : State) : Host.Outcome State Fault Refusal := cbExecute cb s

/-- CB 0x00 `RLC B` (R401). -/
def execRlc_B (s : State) : Host.Outcome State Fault Refusal := shiftOpnd .rlc (.reg .b) s

/-- CB 0x01 `RLC C` (R401). -/
def execRlc_C (s : State) : Host.Outcome State Fault Refusal := shiftOpnd .rlc (.reg .c) s

/-- CB 0x02 `RLC D` (R401). -/
def execRlc_D (s : State) : Host.Outcome State Fault Refusal := shiftOpnd .rlc (.reg .d) s

/-- CB 0x03 `RLC E` (R401). -/
def execRlc_E (s : State) : Host.Outcome State Fault Refusal := shiftOpnd .rlc (.reg .e) s

/-- CB 0x04 `RLC H` (R401). -/
def execRlc_H (s : State) : Host.Outcome State Fault Refusal := shiftOpnd .rlc (.reg .h) s

/-- CB 0x05 `RLC L` (R401). -/
def execRlc_L (s : State) : Host.Outcome State Fault Refusal := shiftOpnd .rlc (.reg .l) s

/-- CB 0x06 `RLC (HL)` (R401). -/
def execRlc_mHL (s : State) : Host.Outcome State Fault Refusal := shiftOpnd .rlc .mHL s

/-- CB 0x07 `RLC A` (R401). -/
def execRlc_A (s : State) : Host.Outcome State Fault Refusal := shiftOpnd .rlc (.reg .a) s

/-- CB 0x08 `RRC B` (R402). -/
def execRrc_B (s : State) : Host.Outcome State Fault Refusal := shiftOpnd .rrc (.reg .b) s

/-- CB 0x09 `RRC C` (R402). -/
def execRrc_C (s : State) : Host.Outcome State Fault Refusal := shiftOpnd .rrc (.reg .c) s

/-- CB 0x0A `RRC D` (R402). -/
def execRrc_D (s : State) : Host.Outcome State Fault Refusal := shiftOpnd .rrc (.reg .d) s

/-- CB 0x0B `RRC E` (R402). -/
def execRrc_E (s : State) : Host.Outcome State Fault Refusal := shiftOpnd .rrc (.reg .e) s

/-- CB 0x0C `RRC H` (R402). -/
def execRrc_H (s : State) : Host.Outcome State Fault Refusal := shiftOpnd .rrc (.reg .h) s

/-- CB 0x0D `RRC L` (R402). -/
def execRrc_L (s : State) : Host.Outcome State Fault Refusal := shiftOpnd .rrc (.reg .l) s

/-- CB 0x0E `RRC (HL)` (R402). -/
def execRrc_mHL (s : State) : Host.Outcome State Fault Refusal := shiftOpnd .rrc .mHL s

/-- CB 0x0F `RRC A` (R402). -/
def execRrc_A (s : State) : Host.Outcome State Fault Refusal := shiftOpnd .rrc (.reg .a) s

/-- CB 0x10 `RL B` (R403). -/
def execRl_B (s : State) : Host.Outcome State Fault Refusal := shiftOpnd .rl (.reg .b) s

/-- CB 0x11 `RL C` (R403). -/
def execRl_C (s : State) : Host.Outcome State Fault Refusal := shiftOpnd .rl (.reg .c) s

/-- CB 0x12 `RL D` (R403). -/
def execRl_D (s : State) : Host.Outcome State Fault Refusal := shiftOpnd .rl (.reg .d) s

/-- CB 0x13 `RL E` (R403). -/
def execRl_E (s : State) : Host.Outcome State Fault Refusal := shiftOpnd .rl (.reg .e) s

/-- CB 0x14 `RL H` (R403). -/
def execRl_H (s : State) : Host.Outcome State Fault Refusal := shiftOpnd .rl (.reg .h) s

/-- CB 0x15 `RL L` (R403). -/
def execRl_L (s : State) : Host.Outcome State Fault Refusal := shiftOpnd .rl (.reg .l) s

/-- CB 0x16 `RL (HL)` (R403). -/
def execRl_mHL (s : State) : Host.Outcome State Fault Refusal := shiftOpnd .rl .mHL s

/-- CB 0x17 `RL A` (R403). -/
def execRl_A (s : State) : Host.Outcome State Fault Refusal := shiftOpnd .rl (.reg .a) s

/-- CB 0x18 `RR B` (R404). -/
def execRr_B (s : State) : Host.Outcome State Fault Refusal := shiftOpnd .rr (.reg .b) s

/-- CB 0x19 `RR C` (R404). -/
def execRr_C (s : State) : Host.Outcome State Fault Refusal := shiftOpnd .rr (.reg .c) s

/-- CB 0x1A `RR D` (R404). -/
def execRr_D (s : State) : Host.Outcome State Fault Refusal := shiftOpnd .rr (.reg .d) s

/-- CB 0x1B `RR E` (R404). -/
def execRr_E (s : State) : Host.Outcome State Fault Refusal := shiftOpnd .rr (.reg .e) s

/-- CB 0x1C `RR H` (R404). -/
def execRr_H (s : State) : Host.Outcome State Fault Refusal := shiftOpnd .rr (.reg .h) s

/-- CB 0x1D `RR L` (R404). -/
def execRr_L (s : State) : Host.Outcome State Fault Refusal := shiftOpnd .rr (.reg .l) s

/-- CB 0x1E `RR (HL)` (R404). -/
def execRr_mHL (s : State) : Host.Outcome State Fault Refusal := shiftOpnd .rr .mHL s

/-- CB 0x1F `RR A` (R404). -/
def execRr_A (s : State) : Host.Outcome State Fault Refusal := shiftOpnd .rr (.reg .a) s

/-- CB 0x20 `SLA B` (R405). -/
def execSla_B (s : State) : Host.Outcome State Fault Refusal := shiftOpnd .sla (.reg .b) s

/-- CB 0x21 `SLA C` (R405). -/
def execSla_C (s : State) : Host.Outcome State Fault Refusal := shiftOpnd .sla (.reg .c) s

/-- CB 0x22 `SLA D` (R405). -/
def execSla_D (s : State) : Host.Outcome State Fault Refusal := shiftOpnd .sla (.reg .d) s

/-- CB 0x23 `SLA E` (R405). -/
def execSla_E (s : State) : Host.Outcome State Fault Refusal := shiftOpnd .sla (.reg .e) s

/-- CB 0x24 `SLA H` (R405). -/
def execSla_H (s : State) : Host.Outcome State Fault Refusal := shiftOpnd .sla (.reg .h) s

/-- CB 0x25 `SLA L` (R405). -/
def execSla_L (s : State) : Host.Outcome State Fault Refusal := shiftOpnd .sla (.reg .l) s

/-- CB 0x26 `SLA (HL)` (R405). -/
def execSla_mHL (s : State) : Host.Outcome State Fault Refusal := shiftOpnd .sla .mHL s

/-- CB 0x27 `SLA A` (R405). -/
def execSla_A (s : State) : Host.Outcome State Fault Refusal := shiftOpnd .sla (.reg .a) s

/-- CB 0x28 `SRA B` (R406). -/
def execSra_B (s : State) : Host.Outcome State Fault Refusal := shiftOpnd .sra (.reg .b) s

/-- CB 0x29 `SRA C` (R406). -/
def execSra_C (s : State) : Host.Outcome State Fault Refusal := shiftOpnd .sra (.reg .c) s

/-- CB 0x2A `SRA D` (R406). -/
def execSra_D (s : State) : Host.Outcome State Fault Refusal := shiftOpnd .sra (.reg .d) s

/-- CB 0x2B `SRA E` (R406). -/
def execSra_E (s : State) : Host.Outcome State Fault Refusal := shiftOpnd .sra (.reg .e) s

/-- CB 0x2C `SRA H` (R406). -/
def execSra_H (s : State) : Host.Outcome State Fault Refusal := shiftOpnd .sra (.reg .h) s

/-- CB 0x2D `SRA L` (R406). -/
def execSra_L (s : State) : Host.Outcome State Fault Refusal := shiftOpnd .sra (.reg .l) s

/-- CB 0x2E `SRA (HL)` (R406). -/
def execSra_mHL (s : State) : Host.Outcome State Fault Refusal := shiftOpnd .sra .mHL s

/-- CB 0x2F `SRA A` (R406). -/
def execSra_A (s : State) : Host.Outcome State Fault Refusal := shiftOpnd .sra (.reg .a) s

/-- CB 0x30 `SWAP B` (R407). -/
def execSwap_B (s : State) : Host.Outcome State Fault Refusal := shiftOpnd .swap (.reg .b) s

/-- CB 0x31 `SWAP C` (R407). -/
def execSwap_C (s : State) : Host.Outcome State Fault Refusal := shiftOpnd .swap (.reg .c) s

/-- CB 0x32 `SWAP D` (R407). -/
def execSwap_D (s : State) : Host.Outcome State Fault Refusal := shiftOpnd .swap (.reg .d) s

/-- CB 0x33 `SWAP E` (R407). -/
def execSwap_E (s : State) : Host.Outcome State Fault Refusal := shiftOpnd .swap (.reg .e) s

/-- CB 0x34 `SWAP H` (R407). -/
def execSwap_H (s : State) : Host.Outcome State Fault Refusal := shiftOpnd .swap (.reg .h) s

/-- CB 0x35 `SWAP L` (R407). -/
def execSwap_L (s : State) : Host.Outcome State Fault Refusal := shiftOpnd .swap (.reg .l) s

/-- CB 0x36 `SWAP (HL)` (R407). -/
def execSwap_mHL (s : State) : Host.Outcome State Fault Refusal := shiftOpnd .swap .mHL s

/-- CB 0x37 `SWAP A` (R407). -/
def execSwap_A (s : State) : Host.Outcome State Fault Refusal := shiftOpnd .swap (.reg .a) s

/-- CB 0x38 `SRL B` (R408). -/
def execSrl_B (s : State) : Host.Outcome State Fault Refusal := shiftOpnd .srl (.reg .b) s

/-- CB 0x39 `SRL C` (R408). -/
def execSrl_C (s : State) : Host.Outcome State Fault Refusal := shiftOpnd .srl (.reg .c) s

/-- CB 0x3A `SRL D` (R408). -/
def execSrl_D (s : State) : Host.Outcome State Fault Refusal := shiftOpnd .srl (.reg .d) s

/-- CB 0x3B `SRL E` (R408). -/
def execSrl_E (s : State) : Host.Outcome State Fault Refusal := shiftOpnd .srl (.reg .e) s

/-- CB 0x3C `SRL H` (R408). -/
def execSrl_H (s : State) : Host.Outcome State Fault Refusal := shiftOpnd .srl (.reg .h) s

/-- CB 0x3D `SRL L` (R408). -/
def execSrl_L (s : State) : Host.Outcome State Fault Refusal := shiftOpnd .srl (.reg .l) s

/-- CB 0x3E `SRL (HL)` (R408). -/
def execSrl_mHL (s : State) : Host.Outcome State Fault Refusal := shiftOpnd .srl .mHL s

/-- CB 0x3F `SRL A` (R408). -/
def execSrl_A (s : State) : Host.Outcome State Fault Refusal := shiftOpnd .srl (.reg .a) s

/-- CB 0x40 `BIT 0,B` (R409). -/
def execBit_0_B (s : State) : Host.Outcome State Fault Refusal := bitOpnd .i0 (.reg .b) s

/-- CB 0x41 `BIT 0,C` (R409). -/
def execBit_0_C (s : State) : Host.Outcome State Fault Refusal := bitOpnd .i0 (.reg .c) s

/-- CB 0x42 `BIT 0,D` (R409). -/
def execBit_0_D (s : State) : Host.Outcome State Fault Refusal := bitOpnd .i0 (.reg .d) s

/-- CB 0x43 `BIT 0,E` (R409). -/
def execBit_0_E (s : State) : Host.Outcome State Fault Refusal := bitOpnd .i0 (.reg .e) s

/-- CB 0x44 `BIT 0,H` (R409). -/
def execBit_0_H (s : State) : Host.Outcome State Fault Refusal := bitOpnd .i0 (.reg .h) s

/-- CB 0x45 `BIT 0,L` (R409). -/
def execBit_0_L (s : State) : Host.Outcome State Fault Refusal := bitOpnd .i0 (.reg .l) s

/-- CB 0x46 `BIT 0,(HL)` (R409). -/
def execBit_0_mHL (s : State) : Host.Outcome State Fault Refusal := bitOpnd .i0 .mHL s

/-- CB 0x47 `BIT 0,A` (R409). -/
def execBit_0_A (s : State) : Host.Outcome State Fault Refusal := bitOpnd .i0 (.reg .a) s

/-- CB 0x48 `BIT 1,B` (R409). -/
def execBit_1_B (s : State) : Host.Outcome State Fault Refusal := bitOpnd .i1 (.reg .b) s

/-- CB 0x49 `BIT 1,C` (R409). -/
def execBit_1_C (s : State) : Host.Outcome State Fault Refusal := bitOpnd .i1 (.reg .c) s

/-- CB 0x4A `BIT 1,D` (R409). -/
def execBit_1_D (s : State) : Host.Outcome State Fault Refusal := bitOpnd .i1 (.reg .d) s

/-- CB 0x4B `BIT 1,E` (R409). -/
def execBit_1_E (s : State) : Host.Outcome State Fault Refusal := bitOpnd .i1 (.reg .e) s

/-- CB 0x4C `BIT 1,H` (R409). -/
def execBit_1_H (s : State) : Host.Outcome State Fault Refusal := bitOpnd .i1 (.reg .h) s

/-- CB 0x4D `BIT 1,L` (R409). -/
def execBit_1_L (s : State) : Host.Outcome State Fault Refusal := bitOpnd .i1 (.reg .l) s

/-- CB 0x4E `BIT 1,(HL)` (R409). -/
def execBit_1_mHL (s : State) : Host.Outcome State Fault Refusal := bitOpnd .i1 .mHL s

/-- CB 0x4F `BIT 1,A` (R409). -/
def execBit_1_A (s : State) : Host.Outcome State Fault Refusal := bitOpnd .i1 (.reg .a) s

/-- CB 0x50 `BIT 2,B` (R409). -/
def execBit_2_B (s : State) : Host.Outcome State Fault Refusal := bitOpnd .i2 (.reg .b) s

/-- CB 0x51 `BIT 2,C` (R409). -/
def execBit_2_C (s : State) : Host.Outcome State Fault Refusal := bitOpnd .i2 (.reg .c) s

/-- CB 0x52 `BIT 2,D` (R409). -/
def execBit_2_D (s : State) : Host.Outcome State Fault Refusal := bitOpnd .i2 (.reg .d) s

/-- CB 0x53 `BIT 2,E` (R409). -/
def execBit_2_E (s : State) : Host.Outcome State Fault Refusal := bitOpnd .i2 (.reg .e) s

/-- CB 0x54 `BIT 2,H` (R409). -/
def execBit_2_H (s : State) : Host.Outcome State Fault Refusal := bitOpnd .i2 (.reg .h) s

/-- CB 0x55 `BIT 2,L` (R409). -/
def execBit_2_L (s : State) : Host.Outcome State Fault Refusal := bitOpnd .i2 (.reg .l) s

/-- CB 0x56 `BIT 2,(HL)` (R409). -/
def execBit_2_mHL (s : State) : Host.Outcome State Fault Refusal := bitOpnd .i2 .mHL s

/-- CB 0x57 `BIT 2,A` (R409). -/
def execBit_2_A (s : State) : Host.Outcome State Fault Refusal := bitOpnd .i2 (.reg .a) s

/-- CB 0x58 `BIT 3,B` (R409). -/
def execBit_3_B (s : State) : Host.Outcome State Fault Refusal := bitOpnd .i3 (.reg .b) s

/-- CB 0x59 `BIT 3,C` (R409). -/
def execBit_3_C (s : State) : Host.Outcome State Fault Refusal := bitOpnd .i3 (.reg .c) s

/-- CB 0x5A `BIT 3,D` (R409). -/
def execBit_3_D (s : State) : Host.Outcome State Fault Refusal := bitOpnd .i3 (.reg .d) s

/-- CB 0x5B `BIT 3,E` (R409). -/
def execBit_3_E (s : State) : Host.Outcome State Fault Refusal := bitOpnd .i3 (.reg .e) s

/-- CB 0x5C `BIT 3,H` (R409). -/
def execBit_3_H (s : State) : Host.Outcome State Fault Refusal := bitOpnd .i3 (.reg .h) s

/-- CB 0x5D `BIT 3,L` (R409). -/
def execBit_3_L (s : State) : Host.Outcome State Fault Refusal := bitOpnd .i3 (.reg .l) s

/-- CB 0x5E `BIT 3,(HL)` (R409). -/
def execBit_3_mHL (s : State) : Host.Outcome State Fault Refusal := bitOpnd .i3 .mHL s

/-- CB 0x5F `BIT 3,A` (R409). -/
def execBit_3_A (s : State) : Host.Outcome State Fault Refusal := bitOpnd .i3 (.reg .a) s

/-- CB 0x60 `BIT 4,B` (R409). -/
def execBit_4_B (s : State) : Host.Outcome State Fault Refusal := bitOpnd .i4 (.reg .b) s

/-- CB 0x61 `BIT 4,C` (R409). -/
def execBit_4_C (s : State) : Host.Outcome State Fault Refusal := bitOpnd .i4 (.reg .c) s

/-- CB 0x62 `BIT 4,D` (R409). -/
def execBit_4_D (s : State) : Host.Outcome State Fault Refusal := bitOpnd .i4 (.reg .d) s

/-- CB 0x63 `BIT 4,E` (R409). -/
def execBit_4_E (s : State) : Host.Outcome State Fault Refusal := bitOpnd .i4 (.reg .e) s

/-- CB 0x64 `BIT 4,H` (R409). -/
def execBit_4_H (s : State) : Host.Outcome State Fault Refusal := bitOpnd .i4 (.reg .h) s

/-- CB 0x65 `BIT 4,L` (R409). -/
def execBit_4_L (s : State) : Host.Outcome State Fault Refusal := bitOpnd .i4 (.reg .l) s

/-- CB 0x66 `BIT 4,(HL)` (R409). -/
def execBit_4_mHL (s : State) : Host.Outcome State Fault Refusal := bitOpnd .i4 .mHL s

/-- CB 0x67 `BIT 4,A` (R409). -/
def execBit_4_A (s : State) : Host.Outcome State Fault Refusal := bitOpnd .i4 (.reg .a) s

/-- CB 0x68 `BIT 5,B` (R409). -/
def execBit_5_B (s : State) : Host.Outcome State Fault Refusal := bitOpnd .i5 (.reg .b) s

/-- CB 0x69 `BIT 5,C` (R409). -/
def execBit_5_C (s : State) : Host.Outcome State Fault Refusal := bitOpnd .i5 (.reg .c) s

/-- CB 0x6A `BIT 5,D` (R409). -/
def execBit_5_D (s : State) : Host.Outcome State Fault Refusal := bitOpnd .i5 (.reg .d) s

/-- CB 0x6B `BIT 5,E` (R409). -/
def execBit_5_E (s : State) : Host.Outcome State Fault Refusal := bitOpnd .i5 (.reg .e) s

/-- CB 0x6C `BIT 5,H` (R409). -/
def execBit_5_H (s : State) : Host.Outcome State Fault Refusal := bitOpnd .i5 (.reg .h) s

/-- CB 0x6D `BIT 5,L` (R409). -/
def execBit_5_L (s : State) : Host.Outcome State Fault Refusal := bitOpnd .i5 (.reg .l) s

/-- CB 0x6E `BIT 5,(HL)` (R409). -/
def execBit_5_mHL (s : State) : Host.Outcome State Fault Refusal := bitOpnd .i5 .mHL s

/-- CB 0x6F `BIT 5,A` (R409). -/
def execBit_5_A (s : State) : Host.Outcome State Fault Refusal := bitOpnd .i5 (.reg .a) s

/-- CB 0x70 `BIT 6,B` (R409). -/
def execBit_6_B (s : State) : Host.Outcome State Fault Refusal := bitOpnd .i6 (.reg .b) s

/-- CB 0x71 `BIT 6,C` (R409). -/
def execBit_6_C (s : State) : Host.Outcome State Fault Refusal := bitOpnd .i6 (.reg .c) s

/-- CB 0x72 `BIT 6,D` (R409). -/
def execBit_6_D (s : State) : Host.Outcome State Fault Refusal := bitOpnd .i6 (.reg .d) s

/-- CB 0x73 `BIT 6,E` (R409). -/
def execBit_6_E (s : State) : Host.Outcome State Fault Refusal := bitOpnd .i6 (.reg .e) s

/-- CB 0x74 `BIT 6,H` (R409). -/
def execBit_6_H (s : State) : Host.Outcome State Fault Refusal := bitOpnd .i6 (.reg .h) s

/-- CB 0x75 `BIT 6,L` (R409). -/
def execBit_6_L (s : State) : Host.Outcome State Fault Refusal := bitOpnd .i6 (.reg .l) s

/-- CB 0x76 `BIT 6,(HL)` (R409). -/
def execBit_6_mHL (s : State) : Host.Outcome State Fault Refusal := bitOpnd .i6 .mHL s

/-- CB 0x77 `BIT 6,A` (R409). -/
def execBit_6_A (s : State) : Host.Outcome State Fault Refusal := bitOpnd .i6 (.reg .a) s

/-- CB 0x78 `BIT 7,B` (R409). -/
def execBit_7_B (s : State) : Host.Outcome State Fault Refusal := bitOpnd .i7 (.reg .b) s

/-- CB 0x79 `BIT 7,C` (R409). -/
def execBit_7_C (s : State) : Host.Outcome State Fault Refusal := bitOpnd .i7 (.reg .c) s

/-- CB 0x7A `BIT 7,D` (R409). -/
def execBit_7_D (s : State) : Host.Outcome State Fault Refusal := bitOpnd .i7 (.reg .d) s

/-- CB 0x7B `BIT 7,E` (R409). -/
def execBit_7_E (s : State) : Host.Outcome State Fault Refusal := bitOpnd .i7 (.reg .e) s

/-- CB 0x7C `BIT 7,H` (R409). -/
def execBit_7_H (s : State) : Host.Outcome State Fault Refusal := bitOpnd .i7 (.reg .h) s

/-- CB 0x7D `BIT 7,L` (R409). -/
def execBit_7_L (s : State) : Host.Outcome State Fault Refusal := bitOpnd .i7 (.reg .l) s

/-- CB 0x7E `BIT 7,(HL)` (R409). -/
def execBit_7_mHL (s : State) : Host.Outcome State Fault Refusal := bitOpnd .i7 .mHL s

/-- CB 0x7F `BIT 7,A` (R409). -/
def execBit_7_A (s : State) : Host.Outcome State Fault Refusal := bitOpnd .i7 (.reg .a) s

/-- CB 0x80 `RES 0,B` (R410). -/
def execRes_0_B (s : State) : Host.Outcome State Fault Refusal := resOpnd .i0 (.reg .b) s

/-- CB 0x81 `RES 0,C` (R410). -/
def execRes_0_C (s : State) : Host.Outcome State Fault Refusal := resOpnd .i0 (.reg .c) s

/-- CB 0x82 `RES 0,D` (R410). -/
def execRes_0_D (s : State) : Host.Outcome State Fault Refusal := resOpnd .i0 (.reg .d) s

/-- CB 0x83 `RES 0,E` (R410). -/
def execRes_0_E (s : State) : Host.Outcome State Fault Refusal := resOpnd .i0 (.reg .e) s

/-- CB 0x84 `RES 0,H` (R410). -/
def execRes_0_H (s : State) : Host.Outcome State Fault Refusal := resOpnd .i0 (.reg .h) s

/-- CB 0x85 `RES 0,L` (R410). -/
def execRes_0_L (s : State) : Host.Outcome State Fault Refusal := resOpnd .i0 (.reg .l) s

/-- CB 0x86 `RES 0,(HL)` (R410). -/
def execRes_0_mHL (s : State) : Host.Outcome State Fault Refusal := resOpnd .i0 .mHL s

/-- CB 0x87 `RES 0,A` (R410). -/
def execRes_0_A (s : State) : Host.Outcome State Fault Refusal := resOpnd .i0 (.reg .a) s

/-- CB 0x88 `RES 1,B` (R410). -/
def execRes_1_B (s : State) : Host.Outcome State Fault Refusal := resOpnd .i1 (.reg .b) s

/-- CB 0x89 `RES 1,C` (R410). -/
def execRes_1_C (s : State) : Host.Outcome State Fault Refusal := resOpnd .i1 (.reg .c) s

/-- CB 0x8A `RES 1,D` (R410). -/
def execRes_1_D (s : State) : Host.Outcome State Fault Refusal := resOpnd .i1 (.reg .d) s

/-- CB 0x8B `RES 1,E` (R410). -/
def execRes_1_E (s : State) : Host.Outcome State Fault Refusal := resOpnd .i1 (.reg .e) s

/-- CB 0x8C `RES 1,H` (R410). -/
def execRes_1_H (s : State) : Host.Outcome State Fault Refusal := resOpnd .i1 (.reg .h) s

/-- CB 0x8D `RES 1,L` (R410). -/
def execRes_1_L (s : State) : Host.Outcome State Fault Refusal := resOpnd .i1 (.reg .l) s

/-- CB 0x8E `RES 1,(HL)` (R410). -/
def execRes_1_mHL (s : State) : Host.Outcome State Fault Refusal := resOpnd .i1 .mHL s

/-- CB 0x8F `RES 1,A` (R410). -/
def execRes_1_A (s : State) : Host.Outcome State Fault Refusal := resOpnd .i1 (.reg .a) s

/-- CB 0x90 `RES 2,B` (R410). -/
def execRes_2_B (s : State) : Host.Outcome State Fault Refusal := resOpnd .i2 (.reg .b) s

/-- CB 0x91 `RES 2,C` (R410). -/
def execRes_2_C (s : State) : Host.Outcome State Fault Refusal := resOpnd .i2 (.reg .c) s

/-- CB 0x92 `RES 2,D` (R410). -/
def execRes_2_D (s : State) : Host.Outcome State Fault Refusal := resOpnd .i2 (.reg .d) s

/-- CB 0x93 `RES 2,E` (R410). -/
def execRes_2_E (s : State) : Host.Outcome State Fault Refusal := resOpnd .i2 (.reg .e) s

/-- CB 0x94 `RES 2,H` (R410). -/
def execRes_2_H (s : State) : Host.Outcome State Fault Refusal := resOpnd .i2 (.reg .h) s

/-- CB 0x95 `RES 2,L` (R410). -/
def execRes_2_L (s : State) : Host.Outcome State Fault Refusal := resOpnd .i2 (.reg .l) s

/-- CB 0x96 `RES 2,(HL)` (R410). -/
def execRes_2_mHL (s : State) : Host.Outcome State Fault Refusal := resOpnd .i2 .mHL s

/-- CB 0x97 `RES 2,A` (R410). -/
def execRes_2_A (s : State) : Host.Outcome State Fault Refusal := resOpnd .i2 (.reg .a) s

/-- CB 0x98 `RES 3,B` (R410). -/
def execRes_3_B (s : State) : Host.Outcome State Fault Refusal := resOpnd .i3 (.reg .b) s

/-- CB 0x99 `RES 3,C` (R410). -/
def execRes_3_C (s : State) : Host.Outcome State Fault Refusal := resOpnd .i3 (.reg .c) s

/-- CB 0x9A `RES 3,D` (R410). -/
def execRes_3_D (s : State) : Host.Outcome State Fault Refusal := resOpnd .i3 (.reg .d) s

/-- CB 0x9B `RES 3,E` (R410). -/
def execRes_3_E (s : State) : Host.Outcome State Fault Refusal := resOpnd .i3 (.reg .e) s

/-- CB 0x9C `RES 3,H` (R410). -/
def execRes_3_H (s : State) : Host.Outcome State Fault Refusal := resOpnd .i3 (.reg .h) s

/-- CB 0x9D `RES 3,L` (R410). -/
def execRes_3_L (s : State) : Host.Outcome State Fault Refusal := resOpnd .i3 (.reg .l) s

/-- CB 0x9E `RES 3,(HL)` (R410). -/
def execRes_3_mHL (s : State) : Host.Outcome State Fault Refusal := resOpnd .i3 .mHL s

/-- CB 0x9F `RES 3,A` (R410). -/
def execRes_3_A (s : State) : Host.Outcome State Fault Refusal := resOpnd .i3 (.reg .a) s

/-- CB 0xA0 `RES 4,B` (R410). -/
def execRes_4_B (s : State) : Host.Outcome State Fault Refusal := resOpnd .i4 (.reg .b) s

/-- CB 0xA1 `RES 4,C` (R410). -/
def execRes_4_C (s : State) : Host.Outcome State Fault Refusal := resOpnd .i4 (.reg .c) s

/-- CB 0xA2 `RES 4,D` (R410). -/
def execRes_4_D (s : State) : Host.Outcome State Fault Refusal := resOpnd .i4 (.reg .d) s

/-- CB 0xA3 `RES 4,E` (R410). -/
def execRes_4_E (s : State) : Host.Outcome State Fault Refusal := resOpnd .i4 (.reg .e) s

/-- CB 0xA4 `RES 4,H` (R410). -/
def execRes_4_H (s : State) : Host.Outcome State Fault Refusal := resOpnd .i4 (.reg .h) s

/-- CB 0xA5 `RES 4,L` (R410). -/
def execRes_4_L (s : State) : Host.Outcome State Fault Refusal := resOpnd .i4 (.reg .l) s

/-- CB 0xA6 `RES 4,(HL)` (R410). -/
def execRes_4_mHL (s : State) : Host.Outcome State Fault Refusal := resOpnd .i4 .mHL s

/-- CB 0xA7 `RES 4,A` (R410). -/
def execRes_4_A (s : State) : Host.Outcome State Fault Refusal := resOpnd .i4 (.reg .a) s

/-- CB 0xA8 `RES 5,B` (R410). -/
def execRes_5_B (s : State) : Host.Outcome State Fault Refusal := resOpnd .i5 (.reg .b) s

/-- CB 0xA9 `RES 5,C` (R410). -/
def execRes_5_C (s : State) : Host.Outcome State Fault Refusal := resOpnd .i5 (.reg .c) s

/-- CB 0xAA `RES 5,D` (R410). -/
def execRes_5_D (s : State) : Host.Outcome State Fault Refusal := resOpnd .i5 (.reg .d) s

/-- CB 0xAB `RES 5,E` (R410). -/
def execRes_5_E (s : State) : Host.Outcome State Fault Refusal := resOpnd .i5 (.reg .e) s

/-- CB 0xAC `RES 5,H` (R410). -/
def execRes_5_H (s : State) : Host.Outcome State Fault Refusal := resOpnd .i5 (.reg .h) s

/-- CB 0xAD `RES 5,L` (R410). -/
def execRes_5_L (s : State) : Host.Outcome State Fault Refusal := resOpnd .i5 (.reg .l) s

/-- CB 0xAE `RES 5,(HL)` (R410). -/
def execRes_5_mHL (s : State) : Host.Outcome State Fault Refusal := resOpnd .i5 .mHL s

/-- CB 0xAF `RES 5,A` (R410). -/
def execRes_5_A (s : State) : Host.Outcome State Fault Refusal := resOpnd .i5 (.reg .a) s

/-- CB 0xB0 `RES 6,B` (R410). -/
def execRes_6_B (s : State) : Host.Outcome State Fault Refusal := resOpnd .i6 (.reg .b) s

/-- CB 0xB1 `RES 6,C` (R410). -/
def execRes_6_C (s : State) : Host.Outcome State Fault Refusal := resOpnd .i6 (.reg .c) s

/-- CB 0xB2 `RES 6,D` (R410). -/
def execRes_6_D (s : State) : Host.Outcome State Fault Refusal := resOpnd .i6 (.reg .d) s

/-- CB 0xB3 `RES 6,E` (R410). -/
def execRes_6_E (s : State) : Host.Outcome State Fault Refusal := resOpnd .i6 (.reg .e) s

/-- CB 0xB4 `RES 6,H` (R410). -/
def execRes_6_H (s : State) : Host.Outcome State Fault Refusal := resOpnd .i6 (.reg .h) s

/-- CB 0xB5 `RES 6,L` (R410). -/
def execRes_6_L (s : State) : Host.Outcome State Fault Refusal := resOpnd .i6 (.reg .l) s

/-- CB 0xB6 `RES 6,(HL)` (R410). -/
def execRes_6_mHL (s : State) : Host.Outcome State Fault Refusal := resOpnd .i6 .mHL s

/-- CB 0xB7 `RES 6,A` (R410). -/
def execRes_6_A (s : State) : Host.Outcome State Fault Refusal := resOpnd .i6 (.reg .a) s

/-- CB 0xB8 `RES 7,B` (R410). -/
def execRes_7_B (s : State) : Host.Outcome State Fault Refusal := resOpnd .i7 (.reg .b) s

/-- CB 0xB9 `RES 7,C` (R410). -/
def execRes_7_C (s : State) : Host.Outcome State Fault Refusal := resOpnd .i7 (.reg .c) s

/-- CB 0xBA `RES 7,D` (R410). -/
def execRes_7_D (s : State) : Host.Outcome State Fault Refusal := resOpnd .i7 (.reg .d) s

/-- CB 0xBB `RES 7,E` (R410). -/
def execRes_7_E (s : State) : Host.Outcome State Fault Refusal := resOpnd .i7 (.reg .e) s

/-- CB 0xBC `RES 7,H` (R410). -/
def execRes_7_H (s : State) : Host.Outcome State Fault Refusal := resOpnd .i7 (.reg .h) s

/-- CB 0xBD `RES 7,L` (R410). -/
def execRes_7_L (s : State) : Host.Outcome State Fault Refusal := resOpnd .i7 (.reg .l) s

/-- CB 0xBE `RES 7,(HL)` (R410). -/
def execRes_7_mHL (s : State) : Host.Outcome State Fault Refusal := resOpnd .i7 .mHL s

/-- CB 0xBF `RES 7,A` (R410). -/
def execRes_7_A (s : State) : Host.Outcome State Fault Refusal := resOpnd .i7 (.reg .a) s

/-- CB 0xC0 `SET 0,B` (R411). -/
def execSet_0_B (s : State) : Host.Outcome State Fault Refusal := setOpnd .i0 (.reg .b) s

/-- CB 0xC1 `SET 0,C` (R411). -/
def execSet_0_C (s : State) : Host.Outcome State Fault Refusal := setOpnd .i0 (.reg .c) s

/-- CB 0xC2 `SET 0,D` (R411). -/
def execSet_0_D (s : State) : Host.Outcome State Fault Refusal := setOpnd .i0 (.reg .d) s

/-- CB 0xC3 `SET 0,E` (R411). -/
def execSet_0_E (s : State) : Host.Outcome State Fault Refusal := setOpnd .i0 (.reg .e) s

/-- CB 0xC4 `SET 0,H` (R411). -/
def execSet_0_H (s : State) : Host.Outcome State Fault Refusal := setOpnd .i0 (.reg .h) s

/-- CB 0xC5 `SET 0,L` (R411). -/
def execSet_0_L (s : State) : Host.Outcome State Fault Refusal := setOpnd .i0 (.reg .l) s

/-- CB 0xC6 `SET 0,(HL)` (R411). -/
def execSet_0_mHL (s : State) : Host.Outcome State Fault Refusal := setOpnd .i0 .mHL s

/-- CB 0xC7 `SET 0,A` (R411). -/
def execSet_0_A (s : State) : Host.Outcome State Fault Refusal := setOpnd .i0 (.reg .a) s

/-- CB 0xC8 `SET 1,B` (R411). -/
def execSet_1_B (s : State) : Host.Outcome State Fault Refusal := setOpnd .i1 (.reg .b) s

/-- CB 0xC9 `SET 1,C` (R411). -/
def execSet_1_C (s : State) : Host.Outcome State Fault Refusal := setOpnd .i1 (.reg .c) s

/-- CB 0xCA `SET 1,D` (R411). -/
def execSet_1_D (s : State) : Host.Outcome State Fault Refusal := setOpnd .i1 (.reg .d) s

/-- CB 0xCB `SET 1,E` (R411). -/
def execSet_1_E (s : State) : Host.Outcome State Fault Refusal := setOpnd .i1 (.reg .e) s

/-- CB 0xCC `SET 1,H` (R411). -/
def execSet_1_H (s : State) : Host.Outcome State Fault Refusal := setOpnd .i1 (.reg .h) s

/-- CB 0xCD `SET 1,L` (R411). -/
def execSet_1_L (s : State) : Host.Outcome State Fault Refusal := setOpnd .i1 (.reg .l) s

/-- CB 0xCE `SET 1,(HL)` (R411). -/
def execSet_1_mHL (s : State) : Host.Outcome State Fault Refusal := setOpnd .i1 .mHL s

/-- CB 0xCF `SET 1,A` (R411). -/
def execSet_1_A (s : State) : Host.Outcome State Fault Refusal := setOpnd .i1 (.reg .a) s

/-- CB 0xD0 `SET 2,B` (R411). -/
def execSet_2_B (s : State) : Host.Outcome State Fault Refusal := setOpnd .i2 (.reg .b) s

/-- CB 0xD1 `SET 2,C` (R411). -/
def execSet_2_C (s : State) : Host.Outcome State Fault Refusal := setOpnd .i2 (.reg .c) s

/-- CB 0xD2 `SET 2,D` (R411). -/
def execSet_2_D (s : State) : Host.Outcome State Fault Refusal := setOpnd .i2 (.reg .d) s

/-- CB 0xD3 `SET 2,E` (R411). -/
def execSet_2_E (s : State) : Host.Outcome State Fault Refusal := setOpnd .i2 (.reg .e) s

/-- CB 0xD4 `SET 2,H` (R411). -/
def execSet_2_H (s : State) : Host.Outcome State Fault Refusal := setOpnd .i2 (.reg .h) s

/-- CB 0xD5 `SET 2,L` (R411). -/
def execSet_2_L (s : State) : Host.Outcome State Fault Refusal := setOpnd .i2 (.reg .l) s

/-- CB 0xD6 `SET 2,(HL)` (R411). -/
def execSet_2_mHL (s : State) : Host.Outcome State Fault Refusal := setOpnd .i2 .mHL s

/-- CB 0xD7 `SET 2,A` (R411). -/
def execSet_2_A (s : State) : Host.Outcome State Fault Refusal := setOpnd .i2 (.reg .a) s

/-- CB 0xD8 `SET 3,B` (R411). -/
def execSet_3_B (s : State) : Host.Outcome State Fault Refusal := setOpnd .i3 (.reg .b) s

/-- CB 0xD9 `SET 3,C` (R411). -/
def execSet_3_C (s : State) : Host.Outcome State Fault Refusal := setOpnd .i3 (.reg .c) s

/-- CB 0xDA `SET 3,D` (R411). -/
def execSet_3_D (s : State) : Host.Outcome State Fault Refusal := setOpnd .i3 (.reg .d) s

/-- CB 0xDB `SET 3,E` (R411). -/
def execSet_3_E (s : State) : Host.Outcome State Fault Refusal := setOpnd .i3 (.reg .e) s

/-- CB 0xDC `SET 3,H` (R411). -/
def execSet_3_H (s : State) : Host.Outcome State Fault Refusal := setOpnd .i3 (.reg .h) s

/-- CB 0xDD `SET 3,L` (R411). -/
def execSet_3_L (s : State) : Host.Outcome State Fault Refusal := setOpnd .i3 (.reg .l) s

/-- CB 0xDE `SET 3,(HL)` (R411). -/
def execSet_3_mHL (s : State) : Host.Outcome State Fault Refusal := setOpnd .i3 .mHL s

/-- CB 0xDF `SET 3,A` (R411). -/
def execSet_3_A (s : State) : Host.Outcome State Fault Refusal := setOpnd .i3 (.reg .a) s

/-- CB 0xE0 `SET 4,B` (R411). -/
def execSet_4_B (s : State) : Host.Outcome State Fault Refusal := setOpnd .i4 (.reg .b) s

/-- CB 0xE1 `SET 4,C` (R411). -/
def execSet_4_C (s : State) : Host.Outcome State Fault Refusal := setOpnd .i4 (.reg .c) s

/-- CB 0xE2 `SET 4,D` (R411). -/
def execSet_4_D (s : State) : Host.Outcome State Fault Refusal := setOpnd .i4 (.reg .d) s

/-- CB 0xE3 `SET 4,E` (R411). -/
def execSet_4_E (s : State) : Host.Outcome State Fault Refusal := setOpnd .i4 (.reg .e) s

/-- CB 0xE4 `SET 4,H` (R411). -/
def execSet_4_H (s : State) : Host.Outcome State Fault Refusal := setOpnd .i4 (.reg .h) s

/-- CB 0xE5 `SET 4,L` (R411). -/
def execSet_4_L (s : State) : Host.Outcome State Fault Refusal := setOpnd .i4 (.reg .l) s

/-- CB 0xE6 `SET 4,(HL)` (R411). -/
def execSet_4_mHL (s : State) : Host.Outcome State Fault Refusal := setOpnd .i4 .mHL s

/-- CB 0xE7 `SET 4,A` (R411). -/
def execSet_4_A (s : State) : Host.Outcome State Fault Refusal := setOpnd .i4 (.reg .a) s

/-- CB 0xE8 `SET 5,B` (R411). -/
def execSet_5_B (s : State) : Host.Outcome State Fault Refusal := setOpnd .i5 (.reg .b) s

/-- CB 0xE9 `SET 5,C` (R411). -/
def execSet_5_C (s : State) : Host.Outcome State Fault Refusal := setOpnd .i5 (.reg .c) s

/-- CB 0xEA `SET 5,D` (R411). -/
def execSet_5_D (s : State) : Host.Outcome State Fault Refusal := setOpnd .i5 (.reg .d) s

/-- CB 0xEB `SET 5,E` (R411). -/
def execSet_5_E (s : State) : Host.Outcome State Fault Refusal := setOpnd .i5 (.reg .e) s

/-- CB 0xEC `SET 5,H` (R411). -/
def execSet_5_H (s : State) : Host.Outcome State Fault Refusal := setOpnd .i5 (.reg .h) s

/-- CB 0xED `SET 5,L` (R411). -/
def execSet_5_L (s : State) : Host.Outcome State Fault Refusal := setOpnd .i5 (.reg .l) s

/-- CB 0xEE `SET 5,(HL)` (R411). -/
def execSet_5_mHL (s : State) : Host.Outcome State Fault Refusal := setOpnd .i5 .mHL s

/-- CB 0xEF `SET 5,A` (R411). -/
def execSet_5_A (s : State) : Host.Outcome State Fault Refusal := setOpnd .i5 (.reg .a) s

/-- CB 0xF0 `SET 6,B` (R411). -/
def execSet_6_B (s : State) : Host.Outcome State Fault Refusal := setOpnd .i6 (.reg .b) s

/-- CB 0xF1 `SET 6,C` (R411). -/
def execSet_6_C (s : State) : Host.Outcome State Fault Refusal := setOpnd .i6 (.reg .c) s

/-- CB 0xF2 `SET 6,D` (R411). -/
def execSet_6_D (s : State) : Host.Outcome State Fault Refusal := setOpnd .i6 (.reg .d) s

/-- CB 0xF3 `SET 6,E` (R411). -/
def execSet_6_E (s : State) : Host.Outcome State Fault Refusal := setOpnd .i6 (.reg .e) s

/-- CB 0xF4 `SET 6,H` (R411). -/
def execSet_6_H (s : State) : Host.Outcome State Fault Refusal := setOpnd .i6 (.reg .h) s

/-- CB 0xF5 `SET 6,L` (R411). -/
def execSet_6_L (s : State) : Host.Outcome State Fault Refusal := setOpnd .i6 (.reg .l) s

/-- CB 0xF6 `SET 6,(HL)` (R411). -/
def execSet_6_mHL (s : State) : Host.Outcome State Fault Refusal := setOpnd .i6 .mHL s

/-- CB 0xF7 `SET 6,A` (R411). -/
def execSet_6_A (s : State) : Host.Outcome State Fault Refusal := setOpnd .i6 (.reg .a) s

/-- CB 0xF8 `SET 7,B` (R411). -/
def execSet_7_B (s : State) : Host.Outcome State Fault Refusal := setOpnd .i7 (.reg .b) s

/-- CB 0xF9 `SET 7,C` (R411). -/
def execSet_7_C (s : State) : Host.Outcome State Fault Refusal := setOpnd .i7 (.reg .c) s

/-- CB 0xFA `SET 7,D` (R411). -/
def execSet_7_D (s : State) : Host.Outcome State Fault Refusal := setOpnd .i7 (.reg .d) s

/-- CB 0xFB `SET 7,E` (R411). -/
def execSet_7_E (s : State) : Host.Outcome State Fault Refusal := setOpnd .i7 (.reg .e) s

/-- CB 0xFC `SET 7,H` (R411). -/
def execSet_7_H (s : State) : Host.Outcome State Fault Refusal := setOpnd .i7 (.reg .h) s

/-- CB 0xFD `SET 7,L` (R411). -/
def execSet_7_L (s : State) : Host.Outcome State Fault Refusal := setOpnd .i7 (.reg .l) s

/-- CB 0xFE `SET 7,(HL)` (R411). -/
def execSet_7_mHL (s : State) : Host.Outcome State Fault Refusal := setOpnd .i7 .mHL s

/-- CB 0xFF `SET 7,A` (R411). -/
def execSet_7_A (s : State) : Host.Outcome State Fault Refusal := setOpnd .i7 (.reg .a) s

end Sys2Proof.Machine
end

