-- ==== Sys2Proof/Machine/Control.lean ====
section
/-! DEFINITION. Control flow and stack (42_control.md, R280 to R301): the shared bodies, then one definition per row of the opcode
table. Every operand has been fetched before the condition is tested (R280), so PC is past the instruction in every body. -/

namespace Sys2Proof.Machine

/-- R280: a conditional transfer: its body and its count when the condition holds, otherwise PC at the next instruction and the
other count. -/
def conditional (len taken notTaken : Nat) (cc : Cond) (body : State → Except Fault State) (s : State) :
    Host.Outcome State Fault Refusal :=
  if s.flags.holds cc then primary len taken body s else primary len notTaken (unfailing id) s

/-- R281, R283: PC goes to the target. -/
def jumpBody (target : Word) : State → Except Fault State := unfailing fun s => s.jump target

/-- R284: PC moves by the signed operand, from the byte after the instruction. -/
def jumpRelBody (e8 : Byte) : State → Except Fault State := unfailing fun s => s.jump (s.regs.pc + sext16 e8)

/-- R286, R298: the address after the instruction is pushed, then PC goes to the target. -/
def callBody (target : Word) (s : State) : Except Fault State := (s.push16 s.regs.pc).map fun t => t.jump target

/-- R288: PC is popped. -/
def retBody (s : State) : Except Fault State := s.pop16.map fun (v, t) => t.jump v

/-- R298: the target of RST t. -/
def rstTarget (t : Idx8) : Word := BitVec.ofNat 16 (t.num * 0x08)

/-- R298: RST t. -/
def rstStep (t : Idx8) : State → Host.Outcome State Fault Refusal := primary 1 4 (callBody (rstTarget t))

/-- R300: PUSH rr. -/
def pushStep (p : StackPair) : State → Host.Outcome State Fault Refusal :=
  primary 1 4 fun s => s.push16 (s.regs.getStack p)

/-- R301: POP rr. -/
def popStep (p : StackPair) : State → Host.Outcome State Fault Refusal :=
  primary 1 3 fun s => s.pop16.map fun (v, t) => t.setStack p v

/-! ### The rows of the opcode table -/

/-- 0x18 `JR e8` (R284). -/
def execJr_e8 (e8 : Byte) (s : State) : Host.Outcome State Fault Refusal := primary 2 3 (jumpRelBody e8) s

/-- 0x20 `JR NZ,e8` (R285). -/
def execJr_NZ_e8 (e8 : Byte) (s : State) : Host.Outcome State Fault Refusal := conditional 2 3 2 .nz (jumpRelBody e8) s

/-- 0x28 `JR Z,e8` (R285). -/
def execJr_Z_e8 (e8 : Byte) (s : State) : Host.Outcome State Fault Refusal := conditional 2 3 2 .z (jumpRelBody e8) s

/-- 0x30 `JR NC,e8` (R285). -/
def execJr_NC_e8 (e8 : Byte) (s : State) : Host.Outcome State Fault Refusal := conditional 2 3 2 .nc (jumpRelBody e8) s

/-- 0x38 `JR C,e8` (R285). -/
def execJr_C_e8 (e8 : Byte) (s : State) : Host.Outcome State Fault Refusal := conditional 2 3 2 .c (jumpRelBody e8) s

/-- 0xC0 `RET NZ` (R289). -/
def execRet_NZ (s : State) : Host.Outcome State Fault Refusal := conditional 1 5 2 .nz retBody s

/-- 0xC1 `POP BC` (R301). -/
def execPop_BC (s : State) : Host.Outcome State Fault Refusal := popStep .bc s

/-- 0xC2 `JP NZ,a16` (R282). -/
def execJp_NZ_a16 (a16 : Word) (s : State) : Host.Outcome State Fault Refusal := conditional 3 4 3 .nz (jumpBody a16) s

/-- 0xC3 `JP a16` (R281). -/
def execJp_a16 (a16 : Word) (s : State) : Host.Outcome State Fault Refusal := primary 3 4 (jumpBody a16) s

/-- 0xC4 `CALL NZ,a16` (R287). -/
def execCall_NZ_a16 (a16 : Word) (s : State) : Host.Outcome State Fault Refusal := conditional 3 6 3 .nz (callBody a16) s

/-- 0xC5 `PUSH BC` (R300). -/
def execPush_BC (s : State) : Host.Outcome State Fault Refusal := pushStep .bc s

/-- 0xC7 `RST 00H` (R298). -/
def execRst_00H (s : State) : Host.Outcome State Fault Refusal := rstStep .i0 s

/-- 0xC8 `RET Z` (R289). -/
def execRet_Z (s : State) : Host.Outcome State Fault Refusal := conditional 1 5 2 .z retBody s

/-- 0xC9 `RET` (R288). -/
def execRet (s : State) : Host.Outcome State Fault Refusal := primary 1 4 retBody s

/-- 0xCA `JP Z,a16` (R282). -/
def execJp_Z_a16 (a16 : Word) (s : State) : Host.Outcome State Fault Refusal := conditional 3 4 3 .z (jumpBody a16) s

/-- 0xCC `CALL Z,a16` (R287). -/
def execCall_Z_a16 (a16 : Word) (s : State) : Host.Outcome State Fault Refusal := conditional 3 6 3 .z (callBody a16) s

/-- 0xCD `CALL a16` (R286). -/
def execCall_a16 (a16 : Word) (s : State) : Host.Outcome State Fault Refusal := primary 3 6 (callBody a16) s

/-- 0xCF `RST 08H` (R298). -/
def execRst_08H (s : State) : Host.Outcome State Fault Refusal := rstStep .i1 s

/-- 0xD0 `RET NC` (R289). -/
def execRet_NC (s : State) : Host.Outcome State Fault Refusal := conditional 1 5 2 .nc retBody s

/-- 0xD1 `POP DE` (R301). -/
def execPop_DE (s : State) : Host.Outcome State Fault Refusal := popStep .de s

/-- 0xD2 `JP NC,a16` (R282). -/
def execJp_NC_a16 (a16 : Word) (s : State) : Host.Outcome State Fault Refusal := conditional 3 4 3 .nc (jumpBody a16) s

/-- 0xD4 `CALL NC,a16` (R287). -/
def execCall_NC_a16 (a16 : Word) (s : State) : Host.Outcome State Fault Refusal := conditional 3 6 3 .nc (callBody a16) s

/-- 0xD5 `PUSH DE` (R300). -/
def execPush_DE (s : State) : Host.Outcome State Fault Refusal := pushStep .de s

/-- 0xD7 `RST 10H` (R298). -/
def execRst_10H (s : State) : Host.Outcome State Fault Refusal := rstStep .i2 s

/-- 0xD8 `RET C` (R289). -/
def execRet_C (s : State) : Host.Outcome State Fault Refusal := conditional 1 5 2 .c retBody s

/-- 0xD9 `RETI` (R297). -/
def execReti (s : State) : Host.Outcome State Fault Refusal := primary 1 4 State.returnFromInterrupt s

/-- 0xDA `JP C,a16` (R282). -/
def execJp_C_a16 (a16 : Word) (s : State) : Host.Outcome State Fault Refusal := conditional 3 4 3 .c (jumpBody a16) s

/-- 0xDC `CALL C,a16` (R287). -/
def execCall_C_a16 (a16 : Word) (s : State) : Host.Outcome State Fault Refusal := conditional 3 6 3 .c (callBody a16) s

/-- 0xDF `RST 18H` (R298). -/
def execRst_18H (s : State) : Host.Outcome State Fault Refusal := rstStep .i3 s

/-- 0xE1 `POP HL` (R301). -/
def execPop_HL (s : State) : Host.Outcome State Fault Refusal := popStep .hl s

/-- 0xE5 `PUSH HL` (R300). -/
def execPush_HL (s : State) : Host.Outcome State Fault Refusal := pushStep .hl s

/-- 0xE7 `RST 20H` (R298). -/
def execRst_20H (s : State) : Host.Outcome State Fault Refusal := rstStep .i4 s

/-- 0xE9 `JP HL` (R283). -/
def execJp_HL (s : State) : Host.Outcome State Fault Refusal := primary 1 1 (jumpBody s.regs.hl) s

/-- 0xEF `RST 28H` (R298). -/
def execRst_28H (s : State) : Host.Outcome State Fault Refusal := rstStep .i5 s

/-- 0xF1 `POP AF` (R301). -/
def execPop_AF (s : State) : Host.Outcome State Fault Refusal := popStep .af s

/-- 0xF5 `PUSH AF` (R300). -/
def execPush_AF (s : State) : Host.Outcome State Fault Refusal := pushStep .af s

/-- 0xF7 `RST 30H` (R298). -/
def execRst_30H (s : State) : Host.Outcome State Fault Refusal := rstStep .i6 s

/-- 0xFF `RST 38H` (R298). -/
def execRst_38H (s : State) : Host.Outcome State Fault Refusal := rstStep .i7 s

end Sys2Proof.Machine
end

