-- ==== Sys2Proof/Machine/Loads.lean ====
section
/-! DEFINITION. Loads and stores (44_loads.md, R340 to R363): the shared bodies, then one definition per row of the opcode table. -/

namespace Sys2Proof.Machine

/-- R341: LD r,r'. -/
def ldRegReg (dst src : Reg8) : State → Host.Outcome State Fault Refusal :=
  primary 1 1 (unfailing fun s => s.set8 dst (s.regs.get8 src))

/-- R342: LD r,d8. -/
def ldRegImm (r : Reg8) (d8 : Byte) : State → Host.Outcome State Fault Refusal :=
  primary 2 2 (unfailing fun s => s.set8 r d8)

/-- A load of a register from an address the state gives (R343, R346, R347, R355, R357, R359). -/
def loadInto (r : Reg8) (addr : State → Word) (s : State) : Except Fault State := (s.load (addr s)).map (s.set8 r)

/-- A store of a register at an address the state gives (R344, R348, R349, R354, R356, R358). -/
def storeFrom (r : Reg8) (addr : State → Word) (s : State) : Except Fault State := s.store (addr s) (s.regs.get8 r)

/-- R343: LD r,(HL), with the old HL. -/
def ldRegMem (r : Reg8) : State → Host.Outcome State Fault Refusal := primary 1 2 (loadInto r fun s => s.regs.hl)

/-- R344: LD (HL),r. -/
def ldMemReg (r : Reg8) : State → Host.Outcome State Fault Refusal := primary 1 2 (storeFrom r fun s => s.regs.hl)

/-- R346, R347: LD A,(rr). -/
def ldAccPtr (p : PtrPair) : State → Host.Outcome State Fault Refusal := primary 1 2 (loadInto .a fun s => s.regs.ptr p)

/-- R348, R349: LD (rr),A. -/
def ldPtrAcc (p : PtrPair) : State → Host.Outcome State Fault Refusal := primary 1 2 (storeFrom .a fun s => s.regs.ptr p)

/-- A change of HL by a signed step, after the access (R350 to R353). -/
def State.stepHL (delta : Word) (s : State) : State := s.set16 .hl (s.regs.hl + delta)

/-- R350, R352: LD (HL+),A and LD (HL-),A. -/
def storeStep (delta : Word) (s : State) : Except Fault State :=
  (storeFrom .a (fun s => s.regs.hl) s).map (State.stepHL delta)

/-- R351, R353: LD A,(HL+) and LD A,(HL-). -/
def loadStep (delta : Word) (s : State) : Except Fault State :=
  (loadInto .a (fun s => s.regs.hl) s).map (State.stepHL delta)

/-- R360: LD rr,d16. -/
def ldPairImm (p : Pair) (d16 : Word) : State → Host.Outcome State Fault Refusal :=
  primary 3 3 (unfailing fun s => s.set16 p d16)

/-- R362: LD HL,SP+e8. -/
def ldHLSPBody (e8 : Byte) (s : State) : State :=
  let r := addSP16 s.regs.sp e8
  (s.set16 .hl r.value).setFlags r.flags

/-! ### The rows of the opcode table -/

/-- 0x01 `LD BC,d16` (R360). -/
def execLd_BC_d16 (d16 : Word) (s : State) : Host.Outcome State Fault Refusal := ldPairImm .bc d16 s

/-- 0x02 `LD (BC),A` (R348). -/
def execLd_mBC_A (s : State) : Host.Outcome State Fault Refusal := ldPtrAcc .bc s

/-- 0x06 `LD B,d8` (R342). -/
def execLd_B_d8 (d8 : Byte) (s : State) : Host.Outcome State Fault Refusal := ldRegImm .b d8 s

/-- 0x08 `LD (a16),SP` (R361). -/
def execLd_ma16_SP (a16 : Word) (s : State) : Host.Outcome State Fault Refusal := primary 3 5 (fun t => t.storeWord a16 t.regs.sp) s

/-- 0x0A `LD A,(BC)` (R346). -/
def execLd_A_mBC (s : State) : Host.Outcome State Fault Refusal := ldAccPtr .bc s

/-- 0x0E `LD C,d8` (R342). -/
def execLd_C_d8 (d8 : Byte) (s : State) : Host.Outcome State Fault Refusal := ldRegImm .c d8 s

/-- 0x11 `LD DE,d16` (R360). -/
def execLd_DE_d16 (d16 : Word) (s : State) : Host.Outcome State Fault Refusal := ldPairImm .de d16 s

/-- 0x12 `LD (DE),A` (R349). -/
def execLd_mDE_A (s : State) : Host.Outcome State Fault Refusal := ldPtrAcc .de s

/-- 0x16 `LD D,d8` (R342). -/
def execLd_D_d8 (d8 : Byte) (s : State) : Host.Outcome State Fault Refusal := ldRegImm .d d8 s

/-- 0x1A `LD A,(DE)` (R347). -/
def execLd_A_mDE (s : State) : Host.Outcome State Fault Refusal := ldAccPtr .de s

/-- 0x1E `LD E,d8` (R342). -/
def execLd_E_d8 (d8 : Byte) (s : State) : Host.Outcome State Fault Refusal := ldRegImm .e d8 s

/-- 0x21 `LD HL,d16` (R360). -/
def execLd_HL_d16 (d16 : Word) (s : State) : Host.Outcome State Fault Refusal := ldPairImm .hl d16 s

/-- 0x22 `LD (HL+),A` (R350). -/
def execLd_mHLinc_A (s : State) : Host.Outcome State Fault Refusal := primary 1 2 (storeStep 1) s

/-- 0x26 `LD H,d8` (R342). -/
def execLd_H_d8 (d8 : Byte) (s : State) : Host.Outcome State Fault Refusal := ldRegImm .h d8 s

/-- 0x2A `LD A,(HL+)` (R351). -/
def execLd_A_mHLinc (s : State) : Host.Outcome State Fault Refusal := primary 1 2 (loadStep 1) s

/-- 0x2E `LD L,d8` (R342). -/
def execLd_L_d8 (d8 : Byte) (s : State) : Host.Outcome State Fault Refusal := ldRegImm .l d8 s

/-- 0x31 `LD SP,d16` (R360). -/
def execLd_SP_d16 (d16 : Word) (s : State) : Host.Outcome State Fault Refusal := ldPairImm .sp d16 s

/-- 0x32 `LD (HL-),A` (R352). -/
def execLd_mHLdec_A (s : State) : Host.Outcome State Fault Refusal := primary 1 2 (storeStep (-1)) s

/-- 0x36 `LD (HL),d8` (R345). -/
def execLd_mHL_d8 (d8 : Byte) (s : State) : Host.Outcome State Fault Refusal := primary 2 3 (fun t => t.store t.regs.hl d8) s

/-- 0x3A `LD A,(HL-)` (R353). -/
def execLd_A_mHLdec (s : State) : Host.Outcome State Fault Refusal := primary 1 2 (loadStep (-1)) s

/-- 0x3E `LD A,d8` (R342). -/
def execLd_A_d8 (d8 : Byte) (s : State) : Host.Outcome State Fault Refusal := ldRegImm .a d8 s

/-- 0x40 `LD B,B` (R341). -/
def execLd_B_B (s : State) : Host.Outcome State Fault Refusal := ldRegReg .b .b s

/-- 0x41 `LD B,C` (R341). -/
def execLd_B_C (s : State) : Host.Outcome State Fault Refusal := ldRegReg .b .c s

/-- 0x42 `LD B,D` (R341). -/
def execLd_B_D (s : State) : Host.Outcome State Fault Refusal := ldRegReg .b .d s

/-- 0x43 `LD B,E` (R341). -/
def execLd_B_E (s : State) : Host.Outcome State Fault Refusal := ldRegReg .b .e s

/-- 0x44 `LD B,H` (R341). -/
def execLd_B_H (s : State) : Host.Outcome State Fault Refusal := ldRegReg .b .h s

/-- 0x45 `LD B,L` (R341). -/
def execLd_B_L (s : State) : Host.Outcome State Fault Refusal := ldRegReg .b .l s

/-- 0x46 `LD B,(HL)` (R343). -/
def execLd_B_mHL (s : State) : Host.Outcome State Fault Refusal := ldRegMem .b s

/-- 0x47 `LD B,A` (R341). -/
def execLd_B_A (s : State) : Host.Outcome State Fault Refusal := ldRegReg .b .a s

/-- 0x48 `LD C,B` (R341). -/
def execLd_C_B (s : State) : Host.Outcome State Fault Refusal := ldRegReg .c .b s

/-- 0x49 `LD C,C` (R341). -/
def execLd_C_C (s : State) : Host.Outcome State Fault Refusal := ldRegReg .c .c s

/-- 0x4A `LD C,D` (R341). -/
def execLd_C_D (s : State) : Host.Outcome State Fault Refusal := ldRegReg .c .d s

/-- 0x4B `LD C,E` (R341). -/
def execLd_C_E (s : State) : Host.Outcome State Fault Refusal := ldRegReg .c .e s

/-- 0x4C `LD C,H` (R341). -/
def execLd_C_H (s : State) : Host.Outcome State Fault Refusal := ldRegReg .c .h s

/-- 0x4D `LD C,L` (R341). -/
def execLd_C_L (s : State) : Host.Outcome State Fault Refusal := ldRegReg .c .l s

/-- 0x4E `LD C,(HL)` (R343). -/
def execLd_C_mHL (s : State) : Host.Outcome State Fault Refusal := ldRegMem .c s

/-- 0x4F `LD C,A` (R341). -/
def execLd_C_A (s : State) : Host.Outcome State Fault Refusal := ldRegReg .c .a s

/-- 0x50 `LD D,B` (R341). -/
def execLd_D_B (s : State) : Host.Outcome State Fault Refusal := ldRegReg .d .b s

/-- 0x51 `LD D,C` (R341). -/
def execLd_D_C (s : State) : Host.Outcome State Fault Refusal := ldRegReg .d .c s

/-- 0x52 `LD D,D` (R341). -/
def execLd_D_D (s : State) : Host.Outcome State Fault Refusal := ldRegReg .d .d s

/-- 0x53 `LD D,E` (R341). -/
def execLd_D_E (s : State) : Host.Outcome State Fault Refusal := ldRegReg .d .e s

/-- 0x54 `LD D,H` (R341). -/
def execLd_D_H (s : State) : Host.Outcome State Fault Refusal := ldRegReg .d .h s

/-- 0x55 `LD D,L` (R341). -/
def execLd_D_L (s : State) : Host.Outcome State Fault Refusal := ldRegReg .d .l s

/-- 0x56 `LD D,(HL)` (R343). -/
def execLd_D_mHL (s : State) : Host.Outcome State Fault Refusal := ldRegMem .d s

/-- 0x57 `LD D,A` (R341). -/
def execLd_D_A (s : State) : Host.Outcome State Fault Refusal := ldRegReg .d .a s

/-- 0x58 `LD E,B` (R341). -/
def execLd_E_B (s : State) : Host.Outcome State Fault Refusal := ldRegReg .e .b s

/-- 0x59 `LD E,C` (R341). -/
def execLd_E_C (s : State) : Host.Outcome State Fault Refusal := ldRegReg .e .c s

/-- 0x5A `LD E,D` (R341). -/
def execLd_E_D (s : State) : Host.Outcome State Fault Refusal := ldRegReg .e .d s

/-- 0x5B `LD E,E` (R341). -/
def execLd_E_E (s : State) : Host.Outcome State Fault Refusal := ldRegReg .e .e s

/-- 0x5C `LD E,H` (R341). -/
def execLd_E_H (s : State) : Host.Outcome State Fault Refusal := ldRegReg .e .h s

/-- 0x5D `LD E,L` (R341). -/
def execLd_E_L (s : State) : Host.Outcome State Fault Refusal := ldRegReg .e .l s

/-- 0x5E `LD E,(HL)` (R343). -/
def execLd_E_mHL (s : State) : Host.Outcome State Fault Refusal := ldRegMem .e s

/-- 0x5F `LD E,A` (R341). -/
def execLd_E_A (s : State) : Host.Outcome State Fault Refusal := ldRegReg .e .a s

/-- 0x60 `LD H,B` (R341). -/
def execLd_H_B (s : State) : Host.Outcome State Fault Refusal := ldRegReg .h .b s

/-- 0x61 `LD H,C` (R341). -/
def execLd_H_C (s : State) : Host.Outcome State Fault Refusal := ldRegReg .h .c s

/-- 0x62 `LD H,D` (R341). -/
def execLd_H_D (s : State) : Host.Outcome State Fault Refusal := ldRegReg .h .d s

/-- 0x63 `LD H,E` (R341). -/
def execLd_H_E (s : State) : Host.Outcome State Fault Refusal := ldRegReg .h .e s

/-- 0x64 `LD H,H` (R341). -/
def execLd_H_H (s : State) : Host.Outcome State Fault Refusal := ldRegReg .h .h s

/-- 0x65 `LD H,L` (R341). -/
def execLd_H_L (s : State) : Host.Outcome State Fault Refusal := ldRegReg .h .l s

/-- 0x66 `LD H,(HL)` (R343). -/
def execLd_H_mHL (s : State) : Host.Outcome State Fault Refusal := ldRegMem .h s

/-- 0x67 `LD H,A` (R341). -/
def execLd_H_A (s : State) : Host.Outcome State Fault Refusal := ldRegReg .h .a s

/-- 0x68 `LD L,B` (R341). -/
def execLd_L_B (s : State) : Host.Outcome State Fault Refusal := ldRegReg .l .b s

/-- 0x69 `LD L,C` (R341). -/
def execLd_L_C (s : State) : Host.Outcome State Fault Refusal := ldRegReg .l .c s

/-- 0x6A `LD L,D` (R341). -/
def execLd_L_D (s : State) : Host.Outcome State Fault Refusal := ldRegReg .l .d s

/-- 0x6B `LD L,E` (R341). -/
def execLd_L_E (s : State) : Host.Outcome State Fault Refusal := ldRegReg .l .e s

/-- 0x6C `LD L,H` (R341). -/
def execLd_L_H (s : State) : Host.Outcome State Fault Refusal := ldRegReg .l .h s

/-- 0x6D `LD L,L` (R341). -/
def execLd_L_L (s : State) : Host.Outcome State Fault Refusal := ldRegReg .l .l s

/-- 0x6E `LD L,(HL)` (R343). -/
def execLd_L_mHL (s : State) : Host.Outcome State Fault Refusal := ldRegMem .l s

/-- 0x6F `LD L,A` (R341). -/
def execLd_L_A (s : State) : Host.Outcome State Fault Refusal := ldRegReg .l .a s

/-- 0x70 `LD (HL),B` (R344). -/
def execLd_mHL_B (s : State) : Host.Outcome State Fault Refusal := ldMemReg .b s

/-- 0x71 `LD (HL),C` (R344). -/
def execLd_mHL_C (s : State) : Host.Outcome State Fault Refusal := ldMemReg .c s

/-- 0x72 `LD (HL),D` (R344). -/
def execLd_mHL_D (s : State) : Host.Outcome State Fault Refusal := ldMemReg .d s

/-- 0x73 `LD (HL),E` (R344). -/
def execLd_mHL_E (s : State) : Host.Outcome State Fault Refusal := ldMemReg .e s

/-- 0x74 `LD (HL),H` (R344). -/
def execLd_mHL_H (s : State) : Host.Outcome State Fault Refusal := ldMemReg .h s

/-- 0x75 `LD (HL),L` (R344). -/
def execLd_mHL_L (s : State) : Host.Outcome State Fault Refusal := ldMemReg .l s

/-- 0x77 `LD (HL),A` (R344). -/
def execLd_mHL_A (s : State) : Host.Outcome State Fault Refusal := ldMemReg .a s

/-- 0x78 `LD A,B` (R341). -/
def execLd_A_B (s : State) : Host.Outcome State Fault Refusal := ldRegReg .a .b s

/-- 0x79 `LD A,C` (R341). -/
def execLd_A_C (s : State) : Host.Outcome State Fault Refusal := ldRegReg .a .c s

/-- 0x7A `LD A,D` (R341). -/
def execLd_A_D (s : State) : Host.Outcome State Fault Refusal := ldRegReg .a .d s

/-- 0x7B `LD A,E` (R341). -/
def execLd_A_E (s : State) : Host.Outcome State Fault Refusal := ldRegReg .a .e s

/-- 0x7C `LD A,H` (R341). -/
def execLd_A_H (s : State) : Host.Outcome State Fault Refusal := ldRegReg .a .h s

/-- 0x7D `LD A,L` (R341). -/
def execLd_A_L (s : State) : Host.Outcome State Fault Refusal := ldRegReg .a .l s

/-- 0x7E `LD A,(HL)` (R343). -/
def execLd_A_mHL (s : State) : Host.Outcome State Fault Refusal := ldRegMem .a s

/-- 0x7F `LD A,A` (R341). -/
def execLd_A_A (s : State) : Host.Outcome State Fault Refusal := ldRegReg .a .a s

/-- 0xE0 `LDH (a8),A` (R354). -/
def execLdh_ma8_A (a8 : Byte) (s : State) : Host.Outcome State Fault Refusal := primary 2 3 (storeFrom .a fun _ => highPage a8) s

/-- 0xE2 `LD (C),A` (R356). -/
def execLd_mC_A (s : State) : Host.Outcome State Fault Refusal := primary 1 2 (storeFrom .a fun t => highPage t.regs.c) s

/-- 0xEA `LD (a16),A` (R358). -/
def execLd_ma16_A (a16 : Word) (s : State) : Host.Outcome State Fault Refusal := primary 3 4 (storeFrom .a fun _ => a16) s

/-- 0xF0 `LDH A,(a8)` (R355). -/
def execLdh_A_ma8 (a8 : Byte) (s : State) : Host.Outcome State Fault Refusal := primary 2 3 (loadInto .a fun _ => highPage a8) s

/-- 0xF2 `LD A,(C)` (R357). -/
def execLd_A_mC (s : State) : Host.Outcome State Fault Refusal := primary 1 2 (loadInto .a fun t => highPage t.regs.c) s

/-- 0xF8 `LD HL,SP+e8` (R362). -/
def execLd_HL_SPe8 (e8 : Byte) (s : State) : Host.Outcome State Fault Refusal := primary 2 3 (unfailing (ldHLSPBody e8)) s

/-- 0xF9 `LD SP,HL` (R363). -/
def execLd_SP_HL (s : State) : Host.Outcome State Fault Refusal := primary 1 2 (unfailing fun t => t.setSP t.regs.hl) s

/-- 0xFA `LD A,(a16)` (R359). -/
def execLd_A_ma16 (a16 : Word) (s : State) : Host.Outcome State Fault Refusal := primary 3 4 (loadInto .a fun _ => a16) s

end Sys2Proof.Machine
end

