-- ==== Sys2Proof/Machine/System.lean ====
section
/-! DEFINITION. System instructions (43_system.md, R320 to R324) and the eleven illegal bytes (R135): the shared bodies, then one
definition per row of the opcode table. -/

namespace Sys2Proof.Machine

/-- R135, R500: an illegal byte raises `UnimplementedOpcode(byte, none)`; one opcode byte has been fetched. -/
def illegalStep (op : IllegalByte) (s : State) : Host.Outcome State Fault Refusal :=
  .next (s.takeFault 1 (.unimplementedOpcode op.byte none))

/-! ### The rows of the opcode table -/

/-- 0x00 `NOP` (R320). -/
def execNop (s : State) : Host.Outcome State Fault Refusal := primary 1 1 (unfailing id) s

/-- 0x10 `STOP` (R322). -/
def execStop (_ign : Byte) (s : State) : Host.Outcome State Fault Refusal := primary 2 1 (unfailing fun t => t.setRunState .stopped) s

/-- 0x76 `HALT` (R321). -/
def execHalt (s : State) : Host.Outcome State Fault Refusal := primary 1 1 (unfailing fun t => t.setRunState .halted) s

/-- 0xD3, an illegal byte (R135). -/
def execIllegal_D3 (s : State) : Host.Outcome State Fault Refusal := illegalStep .xD3 s

/-- 0xDB, an illegal byte (R135). -/
def execIllegal_DB (s : State) : Host.Outcome State Fault Refusal := illegalStep .xDB s

/-- 0xDD, an illegal byte (R135). -/
def execIllegal_DD (s : State) : Host.Outcome State Fault Refusal := illegalStep .xDD s

/-- 0xE3, an illegal byte (R135). -/
def execIllegal_E3 (s : State) : Host.Outcome State Fault Refusal := illegalStep .xE3 s

/-- 0xE4, an illegal byte (R135). -/
def execIllegal_E4 (s : State) : Host.Outcome State Fault Refusal := illegalStep .xE4 s

/-- 0xEB, an illegal byte (R135). -/
def execIllegal_EB (s : State) : Host.Outcome State Fault Refusal := illegalStep .xEB s

/-- 0xEC, an illegal byte (R135). -/
def execIllegal_EC (s : State) : Host.Outcome State Fault Refusal := illegalStep .xEC s

/-- 0xED, an illegal byte (R135). -/
def execIllegal_ED (s : State) : Host.Outcome State Fault Refusal := illegalStep .xED s

/-- 0xF3 `DI` (R323). -/
def execDi (s : State) : Host.Outcome State Fault Refusal := primary 1 1 (unfailing fun t => t.setIme false false) s

/-- 0xF4, an illegal byte (R135). -/
def execIllegal_F4 (s : State) : Host.Outcome State Fault Refusal := illegalStep .xF4 s

/-- 0xFB `EI` (R324). -/
def execEi (s : State) : Host.Outcome State Fault Refusal := primary 1 1 (unfailing fun t => t.setIme t.ime true) s

/-- 0xFC, an illegal byte (R135). -/
def execIllegal_FC (s : State) : Host.Outcome State Fault Refusal := illegalStep .xFC s

/-- 0xFD, an illegal byte (R135). -/
def execIllegal_FD (s : State) : Host.Outcome State Fault Refusal := illegalStep .xFD s

end Sys2Proof.Machine
end

