-- ==== Sys2Proof/Machine/Cycle.lean ====
section
/-! DEFINITION. The instruction cycle, R130: the refusal of a faulted core, the Stopped step, the HALT wake, interrupt dispatch, the
fetch and the instruction, in the order of R510. -/

namespace Sys2Proof.Machine

/-- R130 steps 1 to 3, R11, D27: the instruction at PC, its bytes read one at a time in address order, or the fault of the first
read that has one, with the number of opcode bytes fetched before it (R500: 0 for the opcode, 1 for the CB byte or an
operand byte). -/
def State.fetch (s : State) : Except (Nat × Fault) Instr :=
  match s.load s.regs.pc with
  | .error e => .error (0, e)
  | .ok op =>
    match opcodeLength op with
    | 1 => .ok (decode3 op 0 0)
    | 2 =>
      match s.load (s.regs.pc + 1) with
      | .error e => .error (1, e)
      | .ok b1 => .ok (decode3 op b1 0)
    | _ =>
      match s.load (s.regs.pc + 1), s.load (s.regs.pc + 2) with
      | .error e, _ => .error (1, e)
      | .ok _, .error e => .error (1, e)
      | .ok b1, .ok b2 => .ok (decode3 op b1 b2)

/-- What the step adds after an instruction, `s0` being the state before the step. R130 step 6: an EI that was pending before the
instruction and still is sets IME. R500: a fault gives the run state back too, where the step had woken a halted core. -/
def settle (s0 t : State) : State :=
  match t.fault with
  | some _ => t.setRunState s0.runState
  | none => if s0.eiPending && t.eiPending then t.setIme true false else t

/-- R130 steps 1 to 6 in the state `s`, `s0` being the state before the step. -/
def instructionStep (s0 s : State) : Host.Outcome State Fault Refusal :=
  match s.fetch with
  | .error (k, e) => .next (s0.takeFault k e)
  | .ok i =>
    match exec i s with
    | .next t => .next (settle s0 t)
    | .fault e => .fault e
    | .refused r => .refused r

/-- R505: a step of a core that is not refused, Stopped or idle: it takes a pending interrupt when IME is 1, and otherwise runs
the instruction at PC. -/
def activeStep (s0 s : State) : Host.Outcome State Fault Refusal :=
  if s.ime = true ∧ s.pending ≠ 0 then interruptStep s0 s else instructionStep s0 s

/-- R130: the whole step. R501: a faulted core refuses. R325: a Stopped step returns 0 and does nothing. R507: a Halted step with
nothing pending adds 1 to the clock, and otherwise wakes and goes on. -/
def cycle (s : State) : Host.Outcome State Fault Refusal :=
  match s.fault with
  | some e => .refused (.faulted e)
  | none =>
    match s.runState with
    | .stopped => .next s
    | .halted => if s.pending = 0 then .next (s.tick 1) else activeStep s (s.setRunState .running)
    | .running => activeStep s s

/-! ### Loading a word from outside the machine -/

/-- A byte put where the next read of an address finds it: in the BIOS image under the overlay, in the ROM (loaded for it if
none is), or in the buffer of the address. The unused region has no storage (R83). No write effect is triggered. -/
def Mmu.plant (m : Mmu) (addr : Word) (v : Byte) : Mmu :=
  if m.overlaid addr then { m with bios := some (Memory.set (m.bios.getD []) addr.toNat v) }
  else
    match slotOf addr with
    | .rom i => { m with rom := some (Memory.set (m.rom.getD []) i v) }
    | .vram i => { m with vram := Memory.set m.vram i v }
    | .eram i => { m with eram := Memory.set m.eram i v }
    | .wram i => { m with wram := Memory.set m.wram i v }
    | .oam i => { m with oam := Memory.set m.oam i v }
    | .unused => m
    | .io i => { m with io := Memory.set m.io i v }
    | .zp i => { m with zp := Memory.set m.zp i v }
    | .ie => { m with ie := v }

/-- A state whose very next step fetches the three bytes given (log entry 8): they stand at PC, PC + 1 and PC + 2, no fault is
latched, the core runs, and IME is 0 where an interrupt would be taken instead. -/
def State.placeBytes (s : State) (b : Byte × Byte × Byte) : State :=
  let m := ((s.mmu.plant s.regs.pc b.1).plant (s.regs.pc + 1) b.2.1).plant (s.regs.pc + 2) b.2.2
  let t := { s with mmu := m, fault := none, runState := .running }
  if t.pending = 0 then t else t.setIme false t.eiPending

end Sys2Proof.Machine
end

