-- ==== Sys2Proof/Machine/Step.lean ====
section
/-! DEFINITION. One step of the core, and the placing of one instruction where the step fetches it. -/

namespace Sys2Proof.Machine

/-- One `step()` of the core (R130, `cycle` in Machine/Cycle.lean). -/
def step (s : State) : Host.Outcome State Fault Refusal := cycle s

/-- The state whose next step fetches and runs the instruction whose bits are `w`, as spec/opcode_table.json numbers them
(`tableBytes` in Decode.lean, `State.placeBytes` in Machine/Cycle.lean; log entry 8). -/
def State.withFetchWord (s : State) (nbits w : Nat) : State := s.placeBytes (tableBytes nbits w)

end Sys2Proof.Machine
end

