-- ==== Sys2Proof/Machine/HostOps.lean ====
section
/-! DEFINITION. What the host can do to the core between steps, and what it sees of one: construction (R565), `reset()` (R560 to
R563), `loadROM` and `setBIOS` (R94, R95), `isInBIOS()` (R96), memory and register access (R97, R501), `resume()` (R326), the
T-cycle count (R521), the result of a step (R500) and `run()` (R132). -/

namespace Sys2Proof.Machine

/-- R6: `RAM_INIT`, the contents of the RAM, I/O and IE bytes at construction. -/
structure RamInit where
  vram : Memory
  eram : Memory
  wram : Memory
  oam : Memory
  io : Memory
  zp : Memory
  ie : Byte
  deriving DecidableEq, Repr

/-- `RAM_INIT` all zero, as the spec's test vectors take it (D7). -/
def RamInit.zero : RamInit := { vram := [], eram := [], wram := [], oam := [], io := [], zp := [], ie := 0 }

/-- R560 to R564: `reset()`. Memory is not touched. -/
def State.hostReset (s : State) : State :=
  { regs := if s.mmu.bios.isSome then Regs.zero else Regs.postBios
    mmu := { s.mmu with inBios := s.mmu.bios.isSome }
    clock := 0
    runState := .running
    ime := false
    eiPending := false
    fault := none }

/-- R94, R508: `loadROM(bytes)`: exactly 32,768 bytes, or `InvalidRomSize(n)` and no change. -/
def State.loadRom (s : State) (bytes : List Byte) : Except Fault State :=
  if bytes.length = Config.romSize then .ok (s.withMmu { s.mmu with rom := some (Memory.ofBytes 0 bytes) })
  else .error (.invalidRomSize bytes.length)

/-- R95, R508, R565: `setBIOS(bytes)`: exactly 256 bytes, or `InvalidRomSize(n)` and no change. The registers and inBIOS change only
at the next reset. -/
def State.setBios (s : State) (bytes : List Byte) : Except Fault State :=
  if bytes.length = Config.biosSize then .ok (s.withMmu { s.mmu with bios := some (Memory.ofBytes 0 bytes) })
  else .error (.invalidRomSize bytes.length)

/-- R565: the buffers at construction, before the reset that construction performs. -/
def State.blank (ram : RamInit) : State :=
  { regs := Regs.zero
    mmu := { bios := none, rom := none, vram := ram.vram, eram := ram.eram, wram := ram.wram, oam := ram.oam, io := ram.io,
             zp := ram.zp, ie := ram.ie, inBios := false }
    clock := 0
    runState := .running
    ime := false
    eiPending := false
    fault := none }

/-- R565: construction with the optional `BIOS_IMAGE`; the ROM stays absent. -/
def State.construct (bios : Option (List Byte)) (ram : RamInit) : Except Fault State :=
  match bios with
  | none => .ok (State.blank ram).hostReset
  | some img => ((State.blank ram).setBios img).map State.hostReset

/-- R96: `isInBIOS()`. -/
def State.isInBios (s : State) : Bool := s.mmu.inBios

/-- R97: the host's `readByte`. -/
def State.hostReadByte (s : State) (addr : Word) : Except Fault Byte := s.load addr

/-- R97: the host's `readWord`. -/
def State.hostReadWord (s : State) (addr : Word) : Except Fault Word := s.mmu.readWord addr

/-- R97: the host's `writeByte`. A fault is answered to the host; it latches nothing, since no step raised it (R501). -/
def State.hostWriteByte (s : State) (addr : Word) (v : Byte) : Except Fault State := s.store addr v

/-- R97, R89: the host's `writeWord`, the state after it and its fault if it has one: a high byte that faults leaves the low byte
written, as the two writes of R89 stand (DEDUCED, log entry 4). -/
def State.hostWriteWord (s : State) (addr : Word) (v : Word) : State × Option Fault :=
  match s.store addr (lo8 v) with
  | .error e => (s, some e)
  | .ok t =>
    match t.store (addr + 1) (hi8 v) with
    | .error e => (t, some e)
    | .ok u => (u, none)

/-- R501: the host's write of the registers. F keeps its low nibble 0 as every write to it does (R32). -/
def State.hostSetRegs (s : State) (r : Regs) : State := s.withRegs { r with f := r.f &&& 0xF0 }

/-- R40, R521: the T-cycle count, which is no state of its own. -/
def State.tCycles (s : State) : Nat := 4 * s.clock

/-- R326: `resume()`. -/
def State.resume (s : State) : State :=
  match s.runState with
  | .stopped => s.setRunState .running
  | .running => s
  | .halted => s

/-- R500: what `step()` returns to the host. -/
inductive StepResult where
  /-- `Done(n)`: the step took n M-cycles. -/
  | done (n : Nat)
  /-- `Fault(e)`: the step faulted and was undone. -/
  | fault (e : Fault)
  /-- `Refused(e)`. -/
  | refused (r : Refusal)
  deriving DecidableEq, Repr

/-- R130, R500: a step as the host sees it: the state after it and its result. A step that latches a fault returns `Fault(e)`. -/
def State.hostStep (s : State) : State × StepResult :=
  match step s with
  | .next t =>
    match t.fault with
    | some e => (t, .fault e)
    | none => (t, .done (t.clock - s.clock))
  | .fault e => (s, .fault e)
  | .refused r => (s, .refused r)

/-- R132: whether `run(until)` returns after a step. -/
def runStops (target : Nat) (t : State) (r : StepResult) : Bool :=
  match r with
  | .done _ => decide (target ≤ t.clock) || decide (t.runState = .stopped)
  | .fault _ => true
  | .refused _ => true

/-- R132: the loop of `run`, at most `fuel + 1` steps. -/
def runLoop (target : Nat) : Nat → State → State × StepResult
  | 0, s => s.hostStep
  | fuel + 1, s =>
    let (t, r) := s.hostStep
    if runStops target t r then (t, r) else runLoop target fuel t

/-- R132: `run(until_cycles)`. A step that does not end the run adds at least one M-cycle, so the clock's distance to the target
bounds the number of steps. `target` is a value of the clock, as R132's pseudocode has it (`clock >= until`). DEDUCED (log entry 14):
92_eei_decisions.md D28 words the same decision as a budget the clock "has advanced by", and the spec does not say which holds. -/
def State.run (s : State) (target : Nat) : State × StepResult := runLoop target (target - s.clock) s

end Sys2Proof.Machine
end

