-- ==== Sys2Proof/Safety.lean ====
section
/-! DEFINITION. What the claims call a good state and a safe step. -/

namespace Sys2Proof.Machine

/-- The invariant of R50, R77 and the canonical memory: F's low nibble is 0, the BIOS overlay is on only with a BIOS image, and
every buffer is in its canonical form. -/
def State.Inv (s : State) : Prop :=
  s.regs.f &&& 0x0F = 0 ∧ (s.mmu.inBios = true → s.mmu.bios.isSome = true) ∧ s.mmu.wf = true

/-- Every address can be read and written: a ROM is loaded, and the BIOS overlay is on only with a BIOS image (R77, R87). -/
def Mmu.mapped (m : Mmu) : Prop := m.rom.isSome = true ∧ (m.inBios = true → m.bios.isSome = true)

/-- Whether a read of an address finds a byte (R77, R87): outside the ROM region always, under the BIOS overlay with a BIOS image,
elsewhere in the ROM region with a ROM loaded. -/
def Mmu.readable (m : Mmu) (a : Word) : Prop :=
  if a.toNat ≤ 0x00FF ∧ m.inBios = true then m.bios.isSome = true else a.toNat ≤ 0x7FFF → m.rom.isSome = true

/-- Whether a write to an address is accepted (R76, R87): in the ROM region only with a ROM loaded. -/
def Mmu.writable (m : Mmu) (a : Word) : Prop := a.toNat ≤ 0x7FFF → m.rom.isSome = true

/-- Whether two addresses name the same byte (R82): they are equal, or both lie in working RAM or its mirror and agree modulo
0x2000. -/
def sameByte (a b : Word) : Bool :=
  a == b ||
    (decide (0xC000 ≤ a.toNat ∧ a.toNat ≤ 0xFDFF) && decide (0xC000 ≤ b.toNat ∧ b.toNat ≤ 0xFDFF)
      && decide (a.toNat % 0x2000 = b.toNat % 0x2000))

/-- The frame of a store to the addresses listed: every address that names none of the bytes stored reads as before. A store to
0xFF50 under the BIOS overlay also changes what 0x0000 to 0x00FF read (R84), so there the claim is about the others. -/
def Mmu.sameOutside (m m' : Mmu) (stored : List Word) : Prop :=
  ∀ b : Word, (∀ a ∈ stored, sameByte a b = false) → (0xFF50 ∈ stored → m.inBios = true → 0x0100 ≤ b.toNat) →
    m'.readByte b = m.readByte b

/-- A byte is stored at an address, and every other byte of memory reads as before. -/
def Mmu.StoresByte (m : Mmu) (a : Word) (v : Byte) (m' : Mmu) : Prop := m.writeByte a v = .ok m' ∧ m.sameOutside m' [a]

/-- A word is stored, its low byte at the address and then its high byte at the next one (R89), and every other byte of memory
reads as before. -/
def Mmu.StoresWord (m : Mmu) (a v : Word) (m' : Mmu) : Prop :=
  (∃ m1, m.writeByte a (BitVec.ofNat 8 v.toNat) = .ok m1 ∧ m1.writeByte (a + 1) (BitVec.ofNat 8 (v.toNat / 256)) = .ok m') ∧
    m.sameOutside m' [a, a + 1]

/-- `cond(cc)` of R128, read from the byte F: NZ is Z = 0, Z is Z = 1, NC is Cy = 0, C is Cy = 1. -/
def condHolds (f : Byte) : Cond → Bool
  | .nz => f.toNat / 128 % 2 == 0
  | .z => f.toNat / 128 % 2 == 1
  | .nc => f.toNat / 16 % 2 == 0
  | .c => f.toNat / 16 % 2 == 1

/-- The byte F is for four flag values: `Z N H C 0 0 0 0` (R35), as a number. -/
def flagByte (z n h c : Bool) : Byte := BitVec.ofNat 8 (128 * z.toNat + 64 * n.toNat + 32 * h.toNat + 16 * c.toNat)

/-- A state with F written (R35). -/
def State.withF (s : State) (z n h c : Bool) : State := { s with regs := { s.regs with f := flagByte z n h c } }

/-- A state with PC past `len` bytes and the clock `n` M-cycles on (R38, R131). -/
def State.passed (s : State) (len n : Nat) : State :=
  { s with regs := { s.regs with pc := s.regs.pc + BitVec.ofNat 16 len }, clock := s.clock + n }

/-- A step is safe when it answers a next state that latches no fault. -/
def SafeStep (s : State) : Prop := ∃ t, step s = .next t ∧ t.fault = none

/-- A state is reached from another by some number of steps. -/
inductive Reaches : State → State → Prop where
  | refl (s : State) : Reaches s s
  | tail {s t u : State} : Reaches s t → step t = .next u → Reaches s u

end Sys2Proof.Machine
end

