-- ==== Sys2Proof/Certificates/Slice0/Obligations.lean ====
section
/-! DEFINITION. The statements for the provers. Each is about the machine, not about a program; `Sys2Proof/Safety.lean` holds the
words they share. The register-file and MMU operations they use (`set8`, `set16`, `writeByte`) are the subject of statements of
their own at the end of this file. -/

open Sys2Proof Sys2Proof.Machine

/-! ### 8-bit arithmetic and logic (40_alu8.md) -/

/-- R201, R202 (and R203 but for its operand fetch): ADD A,r / ADD A,(HL) / ADD A,d8, their encodings, the sum in A, the four
flags, the count, and the fault of the byte at HL. -/
def Obligations.AddWritesSumAndFlags : Prop :=
  ∀ (s : State) (v : Byte),
    let a := s.regs.a.toNat
    let sum := a + v.toNat
    let done (len n : Nat) : State := ((s.passed len n).set8 .a (BitVec.ofNat 8 sum)).withF
      (decide (sum % 0x100 = 0)) false (decide (a % 0x10 + v.toNat % 0x10 > 0xF)) (decide (sum > 0xFF))
    (∀ r, s.regs.get8 r = v → exec (.mkAlu .add (.reg r)) s = .next (done 1 1)) ∧
    (s.load s.regs.hl = .ok v → exec (.mkAlu .add .mHL) s = .next (done 1 2)) ∧
    (∀ e, s.load s.regs.hl = .error e → exec (.mkAlu .add .mHL) s = .next (s.takeFault 1 e)) ∧
    exec (.mkAluD8 .add v) s = .next (done 2 2) ∧
    (∀ o, encode (.mkAlu .add o) = [BitVec.ofNat 8 (0x80 + o.code)]) ∧ encode (.mkAluD8 .add v) = [0xC6, v]

/-- R207, R208 (and R209 but for its operand fetch): SUB. -/
def Obligations.SubWritesDifferenceAndFlags : Prop :=
  ∀ (s : State) (v : Byte),
    let a := s.regs.a.toNat
    let done (len n : Nat) : State := ((s.passed len n).set8 .a (BitVec.ofNat 8 (a + 0x100 - v.toNat))).withF
      (decide (a = v.toNat)) true (decide (a % 0x10 < v.toNat % 0x10)) (decide (a < v.toNat))
    (∀ r, s.regs.get8 r = v → exec (.mkAlu .sub (.reg r)) s = .next (done 1 1)) ∧
    (s.load s.regs.hl = .ok v → exec (.mkAlu .sub .mHL) s = .next (done 1 2)) ∧
    (∀ e, s.load s.regs.hl = .error e → exec (.mkAlu .sub .mHL) s = .next (s.takeFault 1 e)) ∧
    exec (.mkAluD8 .sub v) s = .next (done 2 2) ∧
    (∀ o, encode (.mkAlu .sub o) = [BitVec.ofNat 8 (0x90 + o.code)]) ∧ encode (.mkAluD8 .sub v) = [0xD6, v]

/-- R204 to R206, R210 to R212: ADC and SBC. That the carry-in enters the nibble sum and both borrow tests is the spec's reading
(92_eei_decisions.md D30). -/
def Obligations.AdcAndSbcTakeTheCarryIn : Prop :=
  ∀ (s : State) (v : Byte),
    let a := s.regs.a.toNat
    let c := s.regs.f.toNat / 0x10 % 2
    let sum := a + v.toNat + c
    let diff := a + 0x200 - v.toNat - c
    let added (len n : Nat) : State := ((s.passed len n).set8 .a (BitVec.ofNat 8 sum)).withF
      (decide (sum % 0x100 = 0)) false (decide (a % 0x10 + v.toNat % 0x10 + c > 0xF)) (decide (sum > 0xFF))
    let taken (len n : Nat) : State := ((s.passed len n).set8 .a (BitVec.ofNat 8 diff)).withF
      (decide (diff % 0x100 = 0)) true (decide (a % 0x10 < v.toNat % 0x10 + c)) (decide (a < v.toNat + c))
    (∀ r, s.regs.get8 r = v → exec (.mkAlu .adc (.reg r)) s = .next (added 1 1) ∧
      exec (.mkAlu .sbc (.reg r)) s = .next (taken 1 1)) ∧
    (s.load s.regs.hl = .ok v → exec (.mkAlu .adc .mHL) s = .next (added 1 2) ∧ exec (.mkAlu .sbc .mHL) s = .next (taken 1 2)) ∧
    (∀ e, s.load s.regs.hl = .error e →
      exec (.mkAlu .adc .mHL) s = .next (s.takeFault 1 e) ∧ exec (.mkAlu .sbc .mHL) s = .next (s.takeFault 1 e)) ∧
    exec (.mkAluD8 .adc v) s = .next (added 2 2) ∧ exec (.mkAluD8 .sbc v) s = .next (taken 2 2) ∧
    (∀ o, encode (.mkAlu .adc o) = [BitVec.ofNat 8 (0x88 + o.code)]) ∧ encode (.mkAluD8 .adc v) = [0xCE, v] ∧
    (∀ o, encode (.mkAlu .sbc o) = [BitVec.ofNat 8 (0x98 + o.code)]) ∧ encode (.mkAluD8 .sbc v) = [0xDE, v]

/-- R213, R214, R216, R217, R219, R220 (and R215, R218, R221 but for their operand fetch): AND, XOR and OR, bit by bit. -/
def Obligations.AndXorOrWriteA : Prop :=
  ∀ (s : State) (v w : Byte) (op : AluOp) (base imm : Nat) (h : Bool),
    (op = .and ∧ base = 0xA0 ∧ imm = 0xE6 ∧ h = true ∧ (∀ i < 8, w.getLsbD i = (s.regs.a.getLsbD i && v.getLsbD i))) ∨
    (op = .xor ∧ base = 0xA8 ∧ imm = 0xEE ∧ h = false ∧ (∀ i < 8, w.getLsbD i = (s.regs.a.getLsbD i ^^ v.getLsbD i))) ∨
    (op = .or ∧ base = 0xB0 ∧ imm = 0xF6 ∧ h = false ∧ (∀ i < 8, w.getLsbD i = (s.regs.a.getLsbD i || v.getLsbD i))) →
    let done (len n : Nat) : State := ((s.passed len n).set8 .a w).withF (decide (w = 0)) false h false
    (∀ r, s.regs.get8 r = v → exec (.mkAlu op (.reg r)) s = .next (done 1 1)) ∧
    (s.load s.regs.hl = .ok v → exec (.mkAlu op .mHL) s = .next (done 1 2)) ∧
    (∀ e, s.load s.regs.hl = .error e → exec (.mkAlu op .mHL) s = .next (s.takeFault 1 e)) ∧
    exec (.mkAluD8 op v) s = .next (done 2 2) ∧
    (∀ o, encode (.mkAlu op o) = [BitVec.ofNat 8 (base + o.code)]) ∧ encode (.mkAluD8 op v) = [BitVec.ofNat 8 imm, v]

/-- R222, R223 (and R224 but for its operand fetch): CP sets SUB's flags and writes no register but F and PC. -/
def Obligations.CpSetsFlagsOnly : Prop :=
  ∀ (s : State) (v : Byte),
    let a := s.regs.a.toNat
    let done (len n : Nat) : State := (s.passed len n).withF
      (decide (a = v.toNat)) true (decide (a % 0x10 < v.toNat % 0x10)) (decide (a < v.toNat))
    (∀ r, s.regs.get8 r = v → exec (.mkAlu .cp (.reg r)) s = .next (done 1 1)) ∧
    (s.load s.regs.hl = .ok v → exec (.mkAlu .cp .mHL) s = .next (done 1 2)) ∧
    (∀ e, s.load s.regs.hl = .error e → exec (.mkAlu .cp .mHL) s = .next (s.takeFault 1 e)) ∧
    exec (.mkAluD8 .cp v) s = .next (done 2 2) ∧
    (∀ o, encode (.mkAlu .cp o) = [BitVec.ofNat 8 (0xB8 + o.code)]) ∧ encode (.mkAluD8 .cp v) = [0xFE, v]

/-- R225 to R228: INC and DEC of a register or of the byte at HL. C is untouched. A fault of the read or of the write leaves memory
unchanged (R500). -/
def Obligations.IncAndDecByteKeepCarry : Prop :=
  ∀ (s : State) (v : Byte),
    let c := decide (s.regs.f.toNat / 0x10 % 2 = 1)
    let steps (make : Opnd8 → Instr) (base result : Nat) (z n h : Bool) : Prop :=
      let done (cycles : Nat) : State := (s.passed 1 cycles).withF z n h c
      (∀ r, s.regs.get8 r = v → exec (make (.reg r)) s = .next ((done 1).set8 r (BitVec.ofNat 8 result))) ∧
      (s.load s.regs.hl = .ok v → s.mmu.writable s.regs.hl → ∃ m,
        s.mmu.StoresByte s.regs.hl (BitVec.ofNat 8 result) m ∧ exec (make .mHL) s = .next ((done 3).withMmu m)) ∧
      (∀ e, s.load s.regs.hl = .error e → exec (make .mHL) s = .next (s.takeFault 1 e)) ∧
      (s.load s.regs.hl = .ok v → ¬ s.mmu.writable s.regs.hl →
        exec (make .mHL) s = .next (s.takeFault 1 (.unmappedRegion s.regs.hl))) ∧
      (∀ o, encode (make o) = [BitVec.ofNat 8 (base + 8 * o.code)])
    steps .mkInc8 0x04 (v.toNat + 1) (decide (v = 0xFF)) false (decide (v.toNat % 0x10 = 0xF)) ∧
    steps .mkDec8 0x05 (v.toNat + 0xFF) (decide (v = 1)) true (decide (v.toNat % 0x10 = 0))

/-- R229: DAA, the document's algorithm on numbers. -/
def Obligations.DaaAdjustsA : Prop :=
  ∀ s : State,
    let a := s.regs.a.toNat
    let f := s.regs.f.toNat
    let z (r : Nat) := decide (r % 0x100 = 0)
    let low : Nat := if f / 0x20 % 2 = 1 ∨ (f / 0x40 % 2 = 0 ∧ a % 0x10 > 9) then 0x06 else 0
    let setC : Bool := decide (f / 0x10 % 2 = 1 ∨ (f / 0x40 % 2 = 0 ∧ a > 0x99))
    let correction := low + if setC then 0x60 else 0
    let result := if f / 0x40 % 2 = 0 then a + correction else a + 0x100 - correction
    exec .daa s = .next (((s.passed 1 1).set8 .a (BitVec.ofNat 8 result)).withF (z result) (decide (f / 0x40 % 2 = 1)) false setC) ∧
    encode .daa = [0x27]

/-- R229 with R201 and R207, whole: on two-digit decimal numbers x and y packed one digit per nibble (R15, BCD), ADD A,B then DAA
gives the two digits of x + y with C set when the sum passes 99, and SUB B then DAA gives the digits of x - y modulo 100 with C
set when y is greater. -/
def Obligations.DaaMakesDecimalSumsAndDifferences : Prop :=
  ∀ (s : State) (x y : Nat), x < 100 → y < 100 →
    let bcd (n : Nat) : Byte := BitVec.ofNat 8 (n / 10 * 16 + n % 10)
    s.regs.a = bcd x → s.regs.b = bcd y →
    (∃ t u, exec (.mkAlu .add (.reg .b)) s = .next t ∧ exec .daa t = .next u ∧ u.regs.a = bcd ((x + y) % 100) ∧
      condHolds u.regs.f .c = decide (x + y > 99) ∧ condHolds u.regs.f .z = decide ((x + y) % 100 = 0)) ∧
    (∃ t u, exec (.mkAlu .sub (.reg .b)) s = .next t ∧ exec .daa t = .next u ∧ u.regs.a = bcd ((x + 100 - y) % 100) ∧
      condHolds u.regs.f .c = decide (x < y) ∧ condHolds u.regs.f .z = decide (x = y))

/-- R230 to R236: CPL, SCF and CCF, which keep Z, and RLCA, RRCA, RLA and RRA, which clear Z even when A becomes 0. -/
def Obligations.AccumulatorAndCarryInstructions : Prop :=
  ∀ s : State,
    let a := s.regs.a.toNat
    let c := s.regs.f.toNat / 0x10 % 2
    let z := decide (s.regs.f.toNat / 0x80 % 2 = 1)
    let rotated (value out : Nat) : State :=
      ((s.passed 1 1).set8 .a (BitVec.ofNat 8 value)).withF false false false (decide (out = 1))
    exec .cpl s = .next (((s.passed 1 1).set8 .a (BitVec.ofNat 8 (0xFF - a))).withF z true true (decide (c = 1))) ∧
    exec .scf s = .next ((s.passed 1 1).withF z false false true) ∧
    exec .ccf s = .next ((s.passed 1 1).withF z false false (decide (c = 0))) ∧
    exec .rlca s = .next (rotated (a * 2 + a / 0x80) (a / 0x80)) ∧
    exec .rrca s = .next (rotated (a / 2 + 0x80 * (a % 2)) (a % 2)) ∧
    exec .rla s = .next (rotated (a * 2 + c) (a / 0x80)) ∧
    exec .rra s = .next (rotated (a / 2 + 0x80 * c) (a % 2)) ∧
    encode .cpl = [0x2F] ∧ encode .scf = [0x37] ∧ encode .ccf = [0x3F] ∧
    encode .rlca = [0x07] ∧ encode .rrca = [0x0F] ∧ encode .rla = [0x17] ∧ encode .rra = [0x1F]

/-! ### 16-bit arithmetic (41_alu16.md) -/

/-- R261, R262: INC rr and DEC rr wrap modulo 0x10000 and touch no flag. That DEC rr touches none is the spec's reading
(92_eei_decisions.md D35). -/
def Obligations.IncDecPairTouchNoFlag : Prop :=
  ∀ (s : State) (p : Pair),
    let v := (s.regs.get16 p).toNat
    exec (.mkInc16 p) s = .next ((s.passed 1 2).set16 p (BitVec.ofNat 16 (v + 1))) ∧
    exec (.mkDec16 p) s = .next ((s.passed 1 2).set16 p (BitVec.ofNat 16 (v + 0xFFFF))) ∧
    encode (.mkInc16 p) = [BitVec.ofNat 8 (0x03 + 0x10 * p.code)] ∧ encode (.mkDec16 p) = [BitVec.ofNat 8 (0x0B + 0x10 * p.code)]

/-- R263: ADD HL,rr. Z is never written. -/
def Obligations.AddHlKeepsZ : Prop :=
  ∀ (s : State) (p : Pair),
    let h := s.regs.hl.toNat
    let v := (s.regs.get16 p).toNat
    exec (.mkAddHL p) s = .next (((s.passed 1 2).set16 .hl (BitVec.ofNat 16 (h + v))).withF
      (decide (s.regs.f.toNat / 0x80 % 2 = 1)) false (decide (h % 0x1000 + v % 0x1000 > 0xFFF)) (decide (h + v > 0xFFFF))) ∧
    encode (.mkAddHL p) = [BitVec.ofNat 8 (0x09 + 0x10 * p.code)]

/-- R264, R362: ADD SP,e8 and LD HL,SP+e8: the signed sum, Z and N clear, H and C from the unsigned sum of SP's low byte and the
raw operand. These flags are the spec's choice (92_eei_decisions.md D36). -/
def Obligations.SignedSpOffsetFlags : Prop :=
  ∀ (s : State) (e : Byte),
    let sp := s.regs.sp.toNat
    let sum : Int := sp + (if e.toNat < 0x80 then (e.toNat : Int) else e.toNat - 0x100)
    let flags (t : State) : State := t.withF false false (decide (sp % 0x10 + e.toNat % 0x10 > 0xF)) (decide (sp % 0x100 + e.toNat > 0xFF))
    exec (.add_SP_e8 e) s = .next (flags ((s.passed 2 4).set16 .sp (BitVec.ofInt 16 sum))) ∧
    exec (.ld_HL_SPe8 e) s = .next (flags ((s.passed 2 3).set16 .hl (BitVec.ofInt 16 sum))) ∧
    encode (.add_SP_e8 e) = [0xE8, e] ∧ encode (.ld_HL_SPe8 e) = [0xF8, e]

/-! ### Control flow and stack (42_control.md) -/

/-- R281 to R283 but for the operand fetch: JP a16, JP cc,a16 and JP HL. -/
def Obligations.AbsoluteJumps : Prop :=
  ∀ (s : State) (a : Word) (cc : Cond),
    exec (.jp_a16 a) s = .next ((s.passed 3 4).jump a) ∧
    (condHolds s.regs.f cc = true → exec (.mkJpCC cc a) s = .next ((s.passed 3 4).jump a)) ∧
    (condHolds s.regs.f cc = false → exec (.mkJpCC cc a) s = .next (s.passed 3 3)) ∧
    exec .jp_HL s = .next ((s.passed 1 1).jump s.regs.hl) ∧
    encode (.jp_a16 a) = [0xC3, BitVec.ofNat 8 a.toNat, BitVec.ofNat 8 (a.toNat / 0x100)] ∧
    encode (.mkJpCC cc a) = [BitVec.ofNat 8 (0xC2 + 8 * cc.code), BitVec.ofNat 8 a.toNat, BitVec.ofNat 8 (a.toNat / 0x100)] ∧
    encode .jp_HL = [0xE9]

/-- R284, R285 but for the operand fetch: JR e8 and JR cc,e8: PC plus 2 plus the signed operand, modulo 0x10000. -/
def Obligations.RelativeJumps : Prop :=
  ∀ (s : State) (e : Byte) (cc : Cond),
    let offset : Int := if e.toNat < 0x80 then (e.toNat : Int) else e.toNat - 0x100
    let target : Word := BitVec.ofInt 16 (s.regs.pc.toNat + 2 + offset)
    exec (.jr_e8 e) s = .next ((s.passed 2 3).jump target) ∧
    (condHolds s.regs.f cc = true → exec (.mkJrCC cc e) s = .next ((s.passed 2 3).jump target)) ∧
    (condHolds s.regs.f cc = false → exec (.mkJrCC cc e) s = .next (s.passed 2 2)) ∧
    encode (.jr_e8 e) = [0x18, e] ∧ encode (.mkJrCC cc e) = [BitVec.ofNat 8 (0x20 + 8 * cc.code), e]

/-- R286, R287 but for the operand fetch: CALL and CALL cc push the address after the instruction, low byte at the new SP, and
go to the target. Not taken, neither SP nor memory changes. A push that faults is undone (R500). -/
def Obligations.CallsPushTheReturnAddress : Prop :=
  ∀ (s : State) (a : Word) (cc : Cond),
    let sp := s.regs.sp - 2
    let ret := s.regs.pc + 3
    (s.mmu.writable sp → s.mmu.writable (sp + 1) → ∃ m, s.mmu.StoresWord sp ret m ∧
      exec (.call_a16 a) s = .next ((((s.passed 3 6).setSP sp).withMmu m).jump a) ∧
      (condHolds s.regs.f cc = true → exec (.mkCallCC cc a) s = .next ((((s.passed 3 6).setSP sp).withMmu m).jump a))) ∧
    (condHolds s.regs.f cc = false → exec (.mkCallCC cc a) s = .next (s.passed 3 3)) ∧
    (∀ b, (¬ s.mmu.writable sp ∧ b = sp) ∨ (s.mmu.writable sp ∧ ¬ s.mmu.writable (sp + 1) ∧ b = sp + 1) →
      exec (.call_a16 a) s = .next (s.takeFault 1 (.unmappedRegion b)) ∧
      (condHolds s.regs.f cc = true → exec (.mkCallCC cc a) s = .next (s.takeFault 1 (.unmappedRegion b)))) ∧
    encode (.call_a16 a) = [0xCD, BitVec.ofNat 8 a.toNat, BitVec.ofNat 8 (a.toNat / 0x100)] ∧
    encode (.mkCallCC cc a) = [BitVec.ofNat 8 (0xC4 + 8 * cc.code), BitVec.ofNat 8 a.toNat, BitVec.ofNat 8 (a.toNat / 0x100)]

/-- R288, R289: RET and RET cc pop PC, low byte from SP and high byte from SP + 1. RET cc not taken reads no memory. -/
def Obligations.ReturnsPopPc : Prop :=
  ∀ (s : State) (lo hi : Byte) (cc : Cond) (e : Fault),
    (s.load s.regs.sp = .ok lo → s.load (s.regs.sp + 1) = .ok hi →
      exec .ret s = .next (((s.passed 1 4).setSP (s.regs.sp + 2)).jump (hi ++ lo)) ∧
      (condHolds s.regs.f cc = true →
        exec (.mkRetCC cc) s = .next (((s.passed 1 5).setSP (s.regs.sp + 2)).jump (hi ++ lo)))) ∧
    (condHolds s.regs.f cc = false → exec (.mkRetCC cc) s = .next (s.passed 1 2)) ∧
    (s.load s.regs.sp = .error e ∨ (s.load s.regs.sp = .ok lo ∧ s.load (s.regs.sp + 1) = .error e) →
      exec .ret s = .next (s.takeFault 1 e) ∧
      (condHolds s.regs.f cc = true → exec (.mkRetCC cc) s = .next (s.takeFault 1 e))) ∧
    encode .ret = [0xC9] ∧ encode (.mkRetCC cc) = [BitVec.ofNat 8 (0xC0 + 8 * cc.code)]

/-- R297, R511: RETI pops PC and sets IME at once; ei_pending stays. Both are the spec's choice (92_eei_decisions.md D12). -/
def Obligations.RetiPopsPcAndSetsIme : Prop :=
  ∀ (s : State) (lo hi : Byte) (e : Fault),
    (s.load s.regs.sp = .ok lo → s.load (s.regs.sp + 1) = .ok hi →
      exec .reti s = .next { ((s.passed 1 4).setSP (s.regs.sp + 2)).jump (hi ++ lo) with ime := true }) ∧
    (s.load s.regs.sp = .error e ∨ (s.load s.regs.sp = .ok lo ∧ s.load (s.regs.sp + 1) = .error e) →
      exec .reti s = .next (s.takeFault 1 e)) ∧
    encode .reti = [0xD9]

/-- R298: RST t calls t * 0x08 and pushes the address after the RST byte. -/
def Obligations.RstCallsItsFixedAddress : Prop :=
  ∀ (s : State) (t : Idx8),
    let sp := s.regs.sp - 2
    (s.mmu.writable sp → s.mmu.writable (sp + 1) → ∃ m, s.mmu.StoresWord sp (s.regs.pc + 1) m ∧
      exec (.mkRst t) s = .next ((((s.passed 1 4).setSP sp).withMmu m).jump (BitVec.ofNat 16 (t.num * 0x08)))) ∧
    (∀ b, (¬ s.mmu.writable sp ∧ b = sp) ∨ (s.mmu.writable sp ∧ ¬ s.mmu.writable (sp + 1) ∧ b = sp + 1) →
      exec (.mkRst t) s = .next (s.takeFault 1 (.unmappedRegion b))) ∧
    encode (.mkRst t) = [BitVec.ofNat 8 (0xC7 + 8 * t.num)]

/-- R300, R299: PUSH rr. -/
def Obligations.PushStoresThePair : Prop :=
  ∀ (s : State) (p : StackPair),
    let sp := s.regs.sp - 2
    (s.mmu.writable sp → s.mmu.writable (sp + 1) → ∃ m, s.mmu.StoresWord sp (s.regs.getStack p) m ∧
      exec (.mkPush p) s = .next (((s.passed 1 4).setSP sp).withMmu m)) ∧
    (∀ b, (¬ s.mmu.writable sp ∧ b = sp) ∨ (s.mmu.writable sp ∧ ¬ s.mmu.writable (sp + 1) ∧ b = sp + 1) →
      exec (.mkPush p) s = .next (s.takeFault 1 (.unmappedRegion b))) ∧
    encode (.mkPush p) = [BitVec.ofNat 8 (0xC5 + 0x10 * p.code)]

/-- R301: POP rr. POP AF clears F's low nibble. -/
def Obligations.PopLoadsThePair : Prop :=
  ∀ (s : State) (lo hi : Byte) (e : Fault),
    let done : State := (s.passed 1 3).setSP (s.regs.sp + 2)
    (s.load s.regs.sp = .ok lo → s.load (s.regs.sp + 1) = .ok hi →
      exec .pop_BC s = .next ((done.set8 .b hi).set8 .c lo) ∧
      exec .pop_DE s = .next ((done.set8 .d hi).set8 .e lo) ∧
      exec .pop_HL s = .next ((done.set8 .h hi).set8 .l lo) ∧
      exec .pop_AF s = .next ((done.set8 .a hi).withF (lo.getLsbD 7) (lo.getLsbD 6) (lo.getLsbD 5) (lo.getLsbD 4))) ∧
    (s.load s.regs.sp = .error e ∨ (s.load s.regs.sp = .ok lo ∧ s.load (s.regs.sp + 1) = .error e) →
      ∀ p, exec (.mkPop p) s = .next (s.takeFault 1 e)) ∧
    (∀ p, encode (.mkPop p) = [BitVec.ofNat 8 (0xC1 + 0x10 * p.code)])

/-- R286, R288, R299 to R301, R33, R34: wherever both stack bytes are stored above the ROM region (all but the unused range), a CALL
and the RET at its target give PC and SP back, in 10 M-cycles, with the return address left in memory below SP; and a PUSH of one pair
and a POP of another copies the pair, AF's low nibble cleared on the way into AF. -/
def Obligations.StackRoundTrips : Prop :=
  ∀ (s : State) (a : Word) (p q : StackPair),
    let low := (s.regs.sp - 2).toNat
    (0x8000 ≤ low ∧ low ≤ 0xFE9E) ∨ (0xFF00 ≤ low ∧ low ≤ 0xFFFE) →
    (∃ t u, exec (.call_a16 a) s = .next t ∧ t.regs.pc = a ∧ exec .ret t = .next u ∧
      u.regs = { s.regs with pc := s.regs.pc + 3 } ∧ u.clock = s.clock + 10 ∧
      u.load (s.regs.sp - 2) = .ok (BitVec.ofNat 8 (s.regs.pc + 3).toNat) ∧
      u.load (s.regs.sp - 1) = .ok (BitVec.ofNat 8 ((s.regs.pc + 3).toNat / 0x100))) ∧
    (∃ t u, exec (.mkPush p) s = .next t ∧ exec (.mkPop q) t = .next u ∧
      u.regs.getStack q = (if q = .af then s.regs.getStack p &&& 0xFFF0 else s.regs.getStack p) ∧
      u.regs.sp = s.regs.sp ∧ (p = q → s.regs.f &&& 0x0F = 0 → u.regs = { s.regs with pc := s.regs.pc + 2 }))

/-! ### System instructions (43_system.md) -/

/-- R320 to R324 but for STOP's operand fetch: NOP, HALT, STOP, DI and EI. The cancelling of a pending EI by DI, the one-instruction
delay as ei_pending and STOP's byte of any value are the spec's choices (92_eei_decisions.md D11, D14). -/
def Obligations.SystemInstructions : Prop :=
  ∀ (s : State) (x : Byte),
    exec .nop s = .next (s.passed 1 1) ∧
    exec .halt s = .next { s.passed 1 1 with runState := .halted } ∧
    exec (.stop x) s = .next { s.passed 2 1 with runState := .stopped } ∧
    exec .di s = .next { s.passed 1 1 with ime := false, eiPending := false } ∧
    exec .ei s = .next { s.passed 1 1 with eiPending := true } ∧
    encode .nop = [0x00] ∧ encode .halt = [0x76] ∧ encode (.stop x) = [0x10, x] ∧ encode .di = [0xF3] ∧ encode .ei = [0xFB]

/-! ### Loads (44_loads.md) -/

/-- R341, R363 (and R342, R360 but for their operand fetch): LD r,r', LD r,d8, LD rr,d16 and LD SP,HL. -/
def Obligations.RegisterLoads : Prop :=
  ∀ (s : State) (dst src : Reg8) (p : Pair) (d8 : Byte) (d16 : Word),
    exec (.mkLdRR dst src) s = .next ((s.passed 1 1).set8 dst (s.regs.get8 src)) ∧
    exec (.mkLdRD8 dst d8) s = .next ((s.passed 2 2).set8 dst d8) ∧
    exec (.mkLdPairD16 p d16) s = .next ((s.passed 3 3).set16 p d16) ∧
    exec .ld_SP_HL s = .next ((s.passed 1 2).setSP s.regs.hl) ∧
    encode (.mkLdRR dst src) = [BitVec.ofNat 8 (0x40 + 8 * dst.code + src.code)] ∧
    encode (.mkLdRD8 dst d8) = [BitVec.ofNat 8 (0x06 + 8 * dst.code), d8] ∧
    encode (.mkLdPairD16 p d16) =
      [BitVec.ofNat 8 (0x01 + 0x10 * p.code), BitVec.ofNat 8 d16.toNat, BitVec.ofNat 8 (d16.toNat / 0x100)] ∧
    encode .ld_SP_HL = [0xF9]

/-- R343, R346, R347, R357 (and R355, R359 but for their operand fetch): a load from memory reads the byte at its address and
changes its register, PC and the clock only. -/
def Obligations.LoadsFromMemory : Prop :=
  ∀ (s : State) (r : Reg8) (x : Byte) (a : Word),
    let loads (i : Instr) (bytes : List Byte) (r : Reg8) (addr : Word) (n : Nat) : Prop :=
      encode i = bytes ∧ (∀ v, s.load addr = .ok v → exec i s = .next ((s.passed bytes.length n).set8 r v)) ∧
        (∀ e, s.load addr = .error e → exec i s = .next (s.takeFault 1 e))
    loads (.mkLdRM r) [BitVec.ofNat 8 (0x46 + 8 * r.code)] r s.regs.hl 2 ∧
    loads .ld_A_mBC [0x0A] .a s.regs.bc 2 ∧
    loads .ld_A_mDE [0x1A] .a s.regs.de 2 ∧
    loads .ld_A_mC [0xF2] .a (BitVec.ofNat 16 (0xFF00 + s.regs.c.toNat)) 2 ∧
    loads (.ldh_A_ma8 x) [0xF0, x] .a (BitVec.ofNat 16 (0xFF00 + x.toNat)) 3 ∧
    loads (.ld_A_ma16 a) [0xFA, BitVec.ofNat 8 a.toNat, BitVec.ofNat 8 (a.toNat / 0x100)] .a a 4

/-- R344, R348, R349, R356 (and R345, R354, R358 but for their operand fetch): a store writes one byte at its address and changes
no register but PC; every other byte of memory reads as before. -/
def Obligations.StoresToMemory : Prop :=
  ∀ (s : State) (r : Reg8) (x : Byte) (a : Word),
    let stores (i : Instr) (bytes : List Byte) (v : Byte) (addr : Word) (n : Nat) : Prop :=
      encode i = bytes ∧
        (s.mmu.writable addr → ∃ m, s.mmu.StoresByte addr v m ∧ exec i s = .next ((s.passed bytes.length n).withMmu m)) ∧
        (¬ s.mmu.writable addr → exec i s = .next (s.takeFault 1 (.unmappedRegion addr)))
    stores (.mkLdMR r) [BitVec.ofNat 8 (0x70 + r.code)] (s.regs.get8 r) s.regs.hl 2 ∧
    stores (.ld_mHL_d8 x) [0x36, x] x s.regs.hl 3 ∧
    stores .ld_mBC_A [0x02] s.regs.a s.regs.bc 2 ∧
    stores .ld_mDE_A [0x12] s.regs.a s.regs.de 2 ∧
    stores .ld_mC_A [0xE2] s.regs.a (BitVec.ofNat 16 (0xFF00 + s.regs.c.toNat)) 2 ∧
    stores (.ldh_ma8_A x) [0xE0, x] s.regs.a (BitVec.ofNat 16 (0xFF00 + x.toNat)) 3 ∧
    stores (.ld_ma16_A a) [0xEA, BitVec.ofNat 8 a.toNat, BitVec.ofNat 8 (a.toNat / 0x100)] s.regs.a a 4

/-- R350 to R353: the access is at the old HL, then HL steps by one modulo 0x10000; a fault leaves HL where it was. -/
def Obligations.AccessesThatStepHl : Prop :=
  ∀ (s : State) (v : Byte) (e : Fault),
    let hl := s.regs.hl
    let up : State := (s.passed 1 2).set16 .hl (BitVec.ofNat 16 (hl.toNat + 1))
    let down : State := (s.passed 1 2).set16 .hl (BitVec.ofNat 16 (hl.toNat + 0xFFFF))
    (s.mmu.writable hl → ∃ m, s.mmu.StoresByte hl s.regs.a m ∧
      exec .ld_mHLinc_A s = .next (up.withMmu m) ∧ exec .ld_mHLdec_A s = .next (down.withMmu m)) ∧
    (¬ s.mmu.writable hl → exec .ld_mHLinc_A s = .next (s.takeFault 1 (.unmappedRegion hl)) ∧
      exec .ld_mHLdec_A s = .next (s.takeFault 1 (.unmappedRegion hl))) ∧
    (s.load hl = .ok v → exec .ld_A_mHLinc s = .next (up.set8 .a v) ∧ exec .ld_A_mHLdec s = .next (down.set8 .a v)) ∧
    (s.load hl = .error e →
      exec .ld_A_mHLinc s = .next (s.takeFault 1 e) ∧ exec .ld_A_mHLdec s = .next (s.takeFault 1 e)) ∧
    encode .ld_mHLinc_A = [0x22] ∧ encode .ld_A_mHLinc = [0x2A] ∧ encode .ld_mHLdec_A = [0x32] ∧ encode .ld_A_mHLdec = [0x3A]

/-- R361 but for its operand fetch: LD (a16),SP stores SP's low byte at a16 and its high byte at a16 + 1, and nothing else. -/
def Obligations.StoreSpAtAddress : Prop :=
  ∀ (s : State) (a : Word),
    (s.mmu.writable a → s.mmu.writable (a + 1) → ∃ m, s.mmu.StoresWord a s.regs.sp m ∧
      exec (.ld_ma16_SP a) s = .next ((s.passed 3 5).withMmu m)) ∧
    (∀ b, (¬ s.mmu.writable a ∧ b = a) ∨ (s.mmu.writable a ∧ ¬ s.mmu.writable (a + 1) ∧ b = a + 1) →
      exec (.ld_ma16_SP a) s = .next (s.takeFault 1 (.unmappedRegion b))) ∧
    encode (.ld_ma16_SP a) = [0x08, BitVec.ofNat 8 a.toNat, BitVec.ofNat 8 (a.toNat / 0x100)]

/-! ### CB-prefixed instructions (45_cb.md) -/

/-- R401 to R408 with R400's counts and exceptions: the rotates, shifts and SWAP, on numbers. Z is computed from the result, unlike
RLCA's (the spec's reading, 92_eei_decisions.md D31). -/
def Obligations.CbShiftsAndRotates : Prop :=
  ∀ (s : State) (v : Byte),
    let n := v.toNat
    let c := s.regs.f.toNat / 0x10 % 2
    let shifts (op : ShiftOp) (base value out : Nat) : Prop :=
      let flags (t : State) : State := t.withF (decide (value % 0x100 = 0)) false false (decide (out = 1))
      let result : Byte := BitVec.ofNat 8 value
      (∀ r, s.regs.get8 r = v → exec (.mkShift op (.reg r)) s = .next (flags ((s.passed 2 2).set8 r result))) ∧
      (s.load s.regs.hl = .ok v → s.mmu.writable s.regs.hl → ∃ m, s.mmu.StoresByte s.regs.hl result m ∧
        exec (.mkShift op .mHL) s = .next (flags ((s.passed 2 4).withMmu m))) ∧
      (∀ e, s.load s.regs.hl = .error e → exec (.mkShift op .mHL) s = .next (s.takeFault 2 e)) ∧
      (s.load s.regs.hl = .ok v → ¬ s.mmu.writable s.regs.hl →
        exec (.mkShift op .mHL) s = .next (s.takeFault 2 (.unmappedRegion s.regs.hl))) ∧
      (∀ o, encode (.mkShift op o) = [0xCB, BitVec.ofNat 8 (base + o.code)])
    shifts .rlc 0x00 (n * 2 + n / 0x80) (n / 0x80) ∧
    shifts .rrc 0x08 (n / 2 + 0x80 * (n % 2)) (n % 2) ∧
    shifts .rl 0x10 (n * 2 + c) (n / 0x80) ∧
    shifts .rr 0x18 (n / 2 + 0x80 * c) (n % 2) ∧
    shifts .sla 0x20 (n * 2) (n / 0x80) ∧
    shifts .sra 0x28 (n / 2 + 0x80 * (n / 0x80)) (n % 2) ∧
    shifts .swap 0x30 (n % 0x10 * 0x10 + n / 0x10) 0 ∧
    shifts .srl 0x38 (n / 2) (n % 2)

/-- R409 with R400's counts and exceptions: BIT b sets Z from the bit, clears N, sets H, keeps C, and writes no operand. These flags
are the spec's own supply: R409 marks them as from general knowledge, and 91_not_in_source.md N3 files them under D31. -/
def Obligations.CbBitTestsOneBit : Prop :=
  ∀ (s : State) (b : Idx8) (v : Byte),
    let done (n : Nat) : State := (s.passed 2 n).withF (decide (v.toNat / 2 ^ b.num % 2 = 0)) false true
      (decide (s.regs.f.toNat / 0x10 % 2 = 1))
    (∀ r, s.regs.get8 r = v → exec (.mkBit b (.reg r)) s = .next (done 2)) ∧
    (s.load s.regs.hl = .ok v → exec (.mkBit b .mHL) s = .next (done 3)) ∧
    (∀ e, s.load s.regs.hl = .error e → exec (.mkBit b .mHL) s = .next (s.takeFault 2 e)) ∧
    (∀ o, encode (.mkBit b o) = [0xCB, BitVec.ofNat 8 (0x40 + 8 * b.num + o.code)])

/-- R410, R411 with R400's counts and exceptions: RES b and SET b write the operand with that bit 0 or 1 and every other bit as it
was, and change no flag. -/
def Obligations.CbResAndSetWriteOneBit : Prop :=
  ∀ (s : State) (b : Idx8) (v w : Byte) (bit : Bool),
    w.getLsbD b.num = bit → (∀ i < 8, i ≠ b.num → w.getLsbD i = v.getLsbD i) →
    let instr (o : Opnd8) : Instr := if bit then .mkSet b o else .mkRes b o
    (∀ r, s.regs.get8 r = v → exec (instr (.reg r)) s = .next ((s.passed 2 2).set8 r w)) ∧
    (s.load s.regs.hl = .ok v → s.mmu.writable s.regs.hl → ∃ m, s.mmu.StoresByte s.regs.hl w m ∧
      exec (instr .mHL) s = .next ((s.passed 2 4).withMmu m)) ∧
    (∀ e, s.load s.regs.hl = .error e → exec (instr .mHL) s = .next (s.takeFault 2 e)) ∧
    (s.load s.regs.hl = .ok v → ¬ s.mmu.writable s.regs.hl →
      exec (instr .mHL) s = .next (s.takeFault 2 (.unmappedRegion s.regs.hl))) ∧
    (∀ o, encode (instr o) = [0xCB, BitVec.ofNat 8 ((if bit then 0xC0 else 0x80) + 8 * b.num + o.code)])

/-- R133, R134: the row of the prefix 0xCB, with the byte after it, is the instruction of the CB table that the byte names by its
fields: two bytes long, it completes wherever the byte at HL can be read and written, and the decoder gives that instruction. That
the byte is consumed whatever its value is the spec's inference (R133). -/
def Obligations.CbPrefixRunsTheCbTable : Prop :=
  ∀ (s : State) (cb b2 : Byte) (i : Instr),
    (∀ op o, cb.toNat = 8 * op.code + o.code → i = .mkShift op o → decode3 0xCB cb b2 = i ∧ exec (.cb_prefix cb) s = exec i s) ∧
    (∀ b o, cb.toNat = 0x40 + 8 * b.num + o.code → i = .mkBit b o → decode3 0xCB cb b2 = i ∧ exec (.cb_prefix cb) s = exec i s) ∧
    (∀ b o, cb.toNat = 0x80 + 8 * b.num + o.code → i = .mkRes b o → decode3 0xCB cb b2 = i ∧ exec (.cb_prefix cb) s = exec i s) ∧
    (∀ b o, cb.toNat = 0xC0 + 8 * b.num + o.code → i = .mkSet b o → decode3 0xCB cb b2 = i ∧ exec (.cb_prefix cb) s = exec i s) ∧
    (s.fault = none → (∃ v, s.load s.regs.hl = .ok v) → s.mmu.writable s.regs.hl →
      ∃ t, exec (.cb_prefix cb) s = .next t ∧ t.fault = none ∧ t.regs.pc = s.regs.pc + 2 ∧ 2 ≤ t.clock - s.clock)

/-! ### Illegal bytes, faults, decoding (30_encoding.md, 60_exceptions.md) -/

/-- R135, R500: each of the eleven reserved bytes decodes to its own row, and running it raises `UnimplementedOpcode(byte, none)`:
PC one past the byte, the fault latched, all else as it was. That all eleven fault is the spec's choice (92_eei_decisions.md D23). -/
def Obligations.IllegalBytesFault : Prop :=
  ∀ (s : State) (op : IllegalByte) (b1 b2 : Byte),
    op.byte.toNat ∈ [0xD3, 0xDB, 0xDD, 0xE3, 0xE4, 0xEB, 0xEC, 0xED, 0xF4, 0xFC, 0xFD] ∧
    decode3 op.byte b1 b2 = .mkIllegal op ∧
    exec (.mkIllegal op) s = .next
      { s with regs := { s.regs with pc := s.regs.pc + 1 }, fault := some (.unimplementedOpcode op.byte none) } ∧
    ∀ op' : IllegalByte, op'.byte = op.byte → op' = op

/-- R140, R141: a few words written out bit by bit from the rules' encoding lines, at least one per family (a sanity statement). -/
def Obligations.SampleWordsDecode : Prop :=
  decode3 0b10000011#8 0 0 = .add_A_E ∧ decode3 0b11011110#8 0x3A 0 = .sbc_A_d8 0x3A ∧ decode3 0b00110100#8 0 0 = .inc_mHL ∧
  decode3 0b00101011#8 0 0 = .dec_HL ∧ decode3 0b11101000#8 0xFE 0 = .add_SP_e8 0xFE ∧
  decode3 0b11010010#8 0x00 0x20 = .jp_NC_a16 0x2000 ∧ decode3 0b00101000#8 0x05 0 = .jr_Z_e8 0x05 ∧
  decode3 0b11001101#8 0x50 0x01 = .call_a16 0x0150 ∧ decode3 0b11110001#8 0 0 = .pop_AF ∧ decode3 0b11111111#8 0 0 = .rst_38H ∧
  decode3 0b01110110#8 0 0 = .halt ∧ decode3 0b00010000#8 0x00 0 = .stop 0x00 ∧ decode3 0b11111011#8 0 0 = .ei ∧
  decode3 0b01110101#8 0 0 = .ld_mHL_L ∧ decode3 0b00000001#8 0x34 0x12 = .ld_BC_d16 0x1234 ∧
  decode3 0b00001000#8 0x00 0xC1 = .ld_ma16_SP 0xC100 ∧ decode3 0b11001011#8 0b01111100#8 0 = .bit_7_H ∧
  decode3 0b11001011#8 0b00110111#8 0 = .swap_A ∧ decode3 0b11010011#8 0 0 = .illegal_D3

/-- R120 to R141: decoding the encoding of a well-formed instruction gives the instruction back, with every operand, and leaves the
bytes after it. -/
def Obligations.DecodeInvertsEncode : Prop :=
  ∀ (i : Instr) (rest : List Byte), i.wellFormed = true → decode (encode i ++ rest) = .ok (i, rest)

/-- R123, R136: what the decoder reads is well formed and encodes to the very bytes read: no bit of an instruction's bytes is
dropped and no two byte strings decode to one instruction. A list of bytes is refused only where it is empty or ends inside the
instruction its first byte begins. -/
def Obligations.EncodeInvertsDecode : Prop :=
  (∀ (bytes : List Byte) (i : Instr) (rest : List Byte), decode bytes = .ok (i, rest) →
    i.wellFormed = true ∧ encode i ++ rest = bytes ∧ 1 ≤ i.length ∧ i.length ≤ 3) ∧
  (∀ (op b1 b2 : Byte) (rest : List Byte), ∃ i rest', decode (op :: b1 :: b2 :: rest) = .ok (i, rest')) ∧
  (∀ (bytes : List Byte) (e : DecodeError), decode bytes = .error e → bytes.length < 3)

/-! ### The step (30_encoding.md, 60_exceptions.md) -/

/-- R130 steps 1 to 6: where the bytes at PC are those of a well-formed instruction, no fault is latched and no interrupt is taken, a
Running core's step is the instruction's own run, with IME set afterwards where an EI was pending before and is still (and nothing
faulted). -/
def Obligations.StepRunsTheDecodedInstruction : Prop :=
  ∀ (s : State) (i : Instr), i.wellFormed = true →
    (∀ k (h : k < (encode i).length), s.load (s.regs.pc + BitVec.ofNat 16 k) = .ok (encode i)[k]) →
    s.fault = none → s.runState = .running → (s.ime = true → s.pending = 0) →
    ∃ t, exec i s = .next t ∧ step s = .next
      (if s.eiPending = true ∧ t.eiPending = true ∧ t.fault = none then { t with ime := true, eiPending := false } else t)

/-- R130, R500: a fetch that faults. The opcode's own read faulting leaves PC at the opcode; the CB byte's or an operand byte's
leaves PC one past it. No other part of the state changes, and the fault is `UnmappedRegion` of the first address that could not be
read. -/
def Obligations.FetchFaults : Prop :=
  ∀ s : State, s.fault = none → s.runState = .running → (s.ime = true → s.pending = 0) →
    (¬ s.mmu.readable s.regs.pc → step s = .next { s with fault := some (.unmappedRegion s.regs.pc) }) ∧
    (∀ op, s.load s.regs.pc = .ok op → ∀ k, 0 < k → k < opcodeLength op → ¬ s.mmu.readable (s.regs.pc + BitVec.ofNat 16 k) →
      (∀ j, j < k → s.mmu.readable (s.regs.pc + BitVec.ofNat 16 j)) →
      step s = .next { s with regs := { s.regs with pc := s.regs.pc + 1 },
                              fault := some (.unmappedRegion (s.regs.pc + BitVec.ofNat 16 k)) })

/-- Every instruction completes (R131, R500): with every address mapped and no fault latched, every instruction but the eleven
illegal bytes answers a next state with no fault latched, with the same BIOS image and every address still mapped, and with between
1 and 6 M-cycles added to the clock. -/
def Obligations.EveryInstructionCompletes : Prop :=
  ∀ (i : Instr) (s : State), s.mmu.mapped → s.fault = none → (∀ op, i ≠ .mkIllegal op) →
    ∃ t, exec i s = .next t ∧ t.fault = none ∧ t.mmu.mapped ∧ t.mmu.bios = s.mmu.bios ∧ s.clock < t.clock ∧ t.clock ≤ s.clock + 6

/-- R37, R92, R93, over all instructions: those outside the table of R37 keep F (RES and SET, the INC and DEC of pairs and every load
but LD HL,SP+e8 and POP AF are among them), and those that store nothing keep every buffer, IE and inBIOS, whatever they end in. -/
def Obligations.InstructionsThatKeepFlagsOrMemory : Prop :=
  ∀ (i : Instr) (s t : State), exec i s = .next t →
    ((match i.form with
      | .alu _ _ | .aluD8 _ _ | .inc8 _ | .dec8 _ | .daa | .cpl | .scf | .ccf | .rlca | .rrca | .rla | .rra | .addHL _ | .addSP _
      | .ldHLSP _ | .shift _ _ | .bit _ _ | .pop .af | .cbPrefix _ => False
      | _ => True) →
    t.regs.f = s.regs.f) ∧
    ((match i.form with
      | .ldMR _ | .ldMD8 _ | .ldPtrA _ | .ldMIncA | .ldMDecA | .ldhMA _ | .ldMCA | .ldM16A _ | .ldM16SP _ | .inc8 .mHL | .dec8 .mHL
      | .call _ | .callCC _ _ | .rst _ | .push _ | .shift _ .mHL | .res _ .mHL | .set _ .mHL | .cbPrefix _ => False
      | _ => True) →
    t.mmu = s.mmu)

/-- Rules R42 to R44, over all instructions: only HALT and STOP change the run state, only DI and RETI change IME, only DI and EI
change ei_pending. -/
def Obligations.LatchesChangeOnlyByTheirInstructions : Prop :=
  ∀ (i : Instr) (s t : State), exec i s = .next t →
    (t.runState ≠ s.runState → i = .halt ∨ ∃ x, i = .stop x) ∧
    (t.ime ≠ s.ime → i = .di ∨ i = .reti) ∧
    (t.eiPending ≠ s.eiPending → i = .di ∨ i = .ei)

/-- R50 and the canonical memory: every step keeps the invariant. -/
def Obligations.StepKeepsTheInvariant : Prop :=
  ∀ s t : State, s.Inv → step s = .next t → t.Inv

/-- The invariant holds at reset, and of every state the host builds or resets to from canonical contents. -/
def Obligations.ResetHasTheInvariant : Prop :=
  State.reset.Inv ∧ (∀ s : State, s.mmu.wf = true → s.hostReset.Inv) ∧
  (∀ (s t : State) (bytes : List Byte), s.Inv → s.loadRom bytes = .ok t ∨ s.setBios bytes = .ok t → t.Inv)

/-- R50: "After every step, and after reset, these hold": F's low nibble is zero, every register is in its range, the pairs are
views, and the clock never goes back. It stands still only in a Stopped step and in one that faults (R325, R500). -/
def Obligations.StepKeepsFlagNibbleAndClock : Prop :=
  let holds (r : Regs) : Prop :=
    r.f.toNat % 0x10 = 0 ∧ (∀ x, (r.get8 x).toNat ≤ 0xFF) ∧ r.sp.toNat ≤ 0xFFFF ∧ r.pc.toNat ≤ 0xFFFF ∧
    r.af.toNat = r.a.toNat * 0x100 + (r.f &&& 0xF0).toNat ∧ r.bc.toNat = r.b.toNat * 0x100 + r.c.toNat ∧
    r.de.toNat = r.d.toNat * 0x100 + r.e.toNat ∧ r.hl.toNat = r.h.toNat * 0x100 + r.l.toNat
  (∀ s t : State, step s = .next t →
    (holds s.regs → holds t.regs) ∧ s.clock ≤ t.clock ∧ (t.clock = s.clock → s.runState = .stopped ∨ t.fault ≠ none)) ∧
  ∀ s : State, holds s.hostReset.regs

/-- R500: faults are precise. A step that latches a fault leaves the whole state as it was but for PC, at most two bytes on, and
the fault, which is an illegal byte's or that of an address below 0x8000. That the step is undone is the spec's reading
(92_eei_decisions.md D15). -/
def Obligations.FaultsArePrecise : Prop :=
  ∀ (s t : State) (e : Fault), step s = .next t → t.fault = some e →
    (∃ k ≤ 2, t = { s with regs := { s.regs with pc := s.regs.pc + BitVec.ofNat 16 k }, fault := some e }) ∧
    ((∃ op : IllegalByte, e = .unimplementedOpcode op.byte none ∧ s.load s.regs.pc = .ok op.byte) ∨
      ∃ a, e = .unmappedRegion a ∧ a.toNat ≤ 0x7FFF)

/-- R501: a latched fault refuses every step with the same fault, and only the host's reset clears it; a step is refused for no
other reason, and never stops otherwise. That faults are sticky is the spec's choice (92_eei_decisions.md D29). -/
def Obligations.FaultsAreSticky : Prop :=
  ∀ (s : State),
    (∀ e, s.fault = some e → step s = .refused (.faulted e) ∧ ∀ target, s.run target = (s, .refused (.faulted e))) ∧
    (s.fault = none → ∃ t, step s = .next t) ∧ s.hostReset.fault = none

/-- R41, R77, R84, R564: along any run, from any state, the BIOS image never changes, the ROM never comes or goes, and once inBIOS is
false it stays false. -/
def Obligations.RunsNeverRaiseTheBiosLatch : Prop :=
  ∀ s t : State, Reaches s t →
    t.mmu.bios = s.mmu.bios ∧ t.mmu.rom.isSome = s.mmu.rom.isSome ∧ (s.mmu.inBios = false → t.mmu.inBios = false)

/-- R568: in any run from a state with every address mapped, the only fault that can ever be latched is an illegal byte's. -/
def Obligations.MappedRunsFaultOnlyOnIllegalBytes : Prop :=
  ∀ s t : State, s.mmu.mapped → s.fault = none → Reaches s t →
    t.mmu.mapped ∧ (t.fault = none ∨ ∃ op : IllegalByte, t.fault = some (.unimplementedOpcode op.byte none))

/-- R574: no step's result depends on the clock. Two states that differ in the clock only give, in one step, states that differ in
the clock only, and by as much; and they are refused together. -/
def Obligations.StepIgnoresTheClock : Prop :=
  ∀ (s : State) (c : Nat),
    (∀ t, step s = .next t → step { s with clock := c } = .next { t with clock := c + (t.clock - s.clock) }) ∧
    (∀ r, step s = .refused r → step { s with clock := c } = .refused r)

/-! ### Interrupts and run states (60_exceptions.md, 43_system.md) -/

/-- R505, R506, R510, R500: a core that is not Stopped takes a pending interrupt when IME is 1, the lowest bit set in IE and IF first:
IME and ei_pending clear, the IF bit it serves clears and no other, PC is pushed, PC goes to 0x0040 + 8k, 5 M-cycles. A dispatch whose
push cannot be stored is undone. The dispatch is in the core, clears ei_pending and takes 5 M-cycles by the spec's choice
(92_eei_decisions.md D10, D34). -/
def Obligations.InterruptDispatch : Prop :=
  ∀ (s : State) (k : Nat), s.fault = none → s.runState ≠ .stopped → s.ime = true → k < 5 →
    (s.mmu.ie &&& s.mmu.iflag).getLsbD k = true → (∀ j < k, (s.mmu.ie &&& s.mmu.iflag).getLsbD j = false) →
    let sp := s.regs.sp - 2
    (s.mmu.writable sp → s.mmu.writable (sp + 1) →
      ∃ (served : Byte) (m1 m2 : Mmu),
        (∀ i < 8, served.getLsbD i = (s.mmu.iflag.getLsbD i && decide (i ≠ k))) ∧
        s.mmu.StoresByte 0xFF0F served m1 ∧ m1.StoresWord sp s.regs.pc m2 ∧
        step s = .next
          { regs := { s.regs with sp := sp, pc := BitVec.ofNat 16 (0x0040 + 8 * k) }, mmu := m2, clock := s.clock + 5,
            runState := .running, ime := false, eiPending := false, fault := none }) ∧
    (∀ b, (¬ s.mmu.writable sp ∧ b = sp) ∨ (s.mmu.writable sp ∧ ¬ s.mmu.writable (sp + 1) ∧ b = sp + 1) →
      step s = .next { s with fault := some (.unmappedRegion b) })

/-- R507, R321: a Halted core with nothing pending idles: the clock goes on by 1 and nothing else changes. With an interrupt
pending it wakes whatever IME is: with IME 0 the step runs the instruction at PC in the Running state, and a fault puts Halted back.
R325, R326: a Stopped core's step does nothing, whatever is pending; `resume()` makes it Running and changes nothing else, and does
nothing in the other run states. The wake's cost and the Stopped step are the spec's choices (92_eei_decisions.md D13, D14). -/
def Obligations.HaltedAndStoppedSteps : Prop :=
  ∀ s : State,
    (s.fault = none → s.runState = .halted → (s.mmu.ie &&& s.mmu.iflag).toNat % 0x20 = 0 →
      step s = .next { s with clock := s.clock + 1 }) ∧
    (s.fault = none → s.runState = .halted → (s.mmu.ie &&& s.mmu.iflag).toNat % 0x20 ≠ 0 → s.ime = false →
      ∃ t, step { s with runState := .running } = .next t ∧
        step s = .next (if t.fault = none then t else { t with runState := .halted })) ∧
    (s.fault = none → s.runState = .stopped → step s = .next s) ∧
    s.resume = { s with runState := if s.runState = .stopped then .running else s.runState }

/-- R324, R571: EI's delay. In a core that is Running with IME 0 and no EI pending and stands at an EI, one step leaves IME 0 with the EI pending;
the next step takes no interrupt, whatever is pending, but runs the instruction after it; and when that instruction is neither DI
nor undone by a fault, IME is 1 after it. -/
def Obligations.EiTakesEffectOneInstructionLater : Prop :=
  ∀ (s : State) (i : Instr), s.fault = none → s.runState = .running → s.ime = false → s.eiPending = false →
    s.load s.regs.pc = .ok 0xFB → i.wellFormed = true →
    (∀ k (h : k < (encode i).length), s.load (s.regs.pc + 1 + BitVec.ofNat 16 k) = .ok (encode i)[k]) →
    ∃ t u, step s = .next t ∧ t.ime = false ∧ t.eiPending = true ∧ exec i t = .next u ∧
      (u.fault ≠ none ∨ i = .di → step t = .next u) ∧
      (u.fault = none → i ≠ .di → step t = .next { u with ime := true, eiPending := false })

/-! ### The memory (20_memory.md) -/

/-- R75, R76, R87: a byte access fails exactly where there is no buffer: `UnmappedRegion` of the address in the ROM region with no ROM
loaded, unless the BIOS overlay serves the read. (That a read under the overlay with no BIOS image faults too is the model's own
completion, log entry 3; no run reaches it.) -/
def Obligations.AccessesFailOnlyWithoutABuffer : Prop :=
  ∀ (m : Mmu) (a : Word) (v : Byte),
    (m.readable a → ∃ w, m.readByte a = .ok w) ∧ (¬ m.readable a → m.readByte a = .error (.unmappedRegion a)) ∧
    (m.writable a → ∃ m', m.writeByte a v = .ok m') ∧ (¬ m.writable a → m.writeByte a v = .error (.unmappedRegion a))

/-- R98, R88 to R91: the byte law and the word law, where they hold and where they fail. A byte is read back as written but in the
unused range, where the read is 0, and under the BIOS overlay, where the read is as before. A word is read back as written where both
its bytes keep that law, 0xFFFF among its addresses (D16); where one does not, as at 0xFE9F, at 0xFEFF, and at 0x00FF and 0xFFFF under
the overlay, the word read has that byte as the byte law says. And a word access is two byte accesses, low byte at the address, high
byte at the next address modulo 0x10000, at every address, odd ones and 0xFFFF among them. -/
def Obligations.MemoryLaws : Prop :=
  ∀ (m m' : Mmu) (a v : Word) (b lo hi : Byte),
    let kept (x : Word) : Prop := ¬ (0xFEA0 ≤ x.toNat ∧ x.toNat ≤ 0xFEFF) ∧ ¬ (x.toNat ≤ 0x00FF ∧ m.inBios = true)
    let readBack (x : Word) (written : Byte) : Except Fault Byte :=
      if 0xFEA0 ≤ x.toNat ∧ x.toNat ≤ 0xFEFF then .ok 0
      else if x.toNat ≤ 0x00FF ∧ m.inBios = true then m.readByte x
      else .ok written
    (m.writeByte a b = .ok m' → kept a → m'.readByte a = .ok b) ∧
    (m.writeByte a b = .ok m' → 0xFEA0 ≤ a.toNat → a.toNat ≤ 0xFEFF → m' = m ∧ m'.readByte a = .ok 0) ∧
    (m.writeByte a b = .ok m' → a.toNat ≤ 0x00FF → m.inBios = true → m'.readByte a = m.readByte a) ∧
    (m.writeWord a v = .ok m' → kept a → kept (a + 1) → m'.readWord a = .ok v) ∧
    (m.writeWord a v = .ok m' →
      readBack a (BitVec.ofNat 8 (v.toNat % 0x100)) = .ok lo → readBack (a + 1) (BitVec.ofNat 8 (v.toNat / 0x100)) = .ok hi →
      m'.readWord a = .ok (BitVec.ofNat 16 (hi.toNat * 0x100 + lo.toNat))) ∧
    (m.readByte a = .ok lo → m.readByte (a + 1) = .ok hi → m.readWord a = .ok (BitVec.ofNat 16 (hi.toNat * 0x100 + lo.toNat))) ∧
    (∀ m1, m.writeByte a (BitVec.ofNat 8 (v.toNat % 0x100)) = .ok m1 →
      m1.writeByte (a + 1) (BitVec.ofNat 8 (v.toNat / 0x100)) = .ok m' → m.writeWord a v = .ok m')

/-- R82: 0xE000 + k and 0xC000 + k reach the same byte for k up to 0x1DFF, for reads and for writes alike. -/
def Obligations.MirrorReachesWorkingRam : Prop :=
  ∀ (m : Mmu) (k : Nat) (v : Byte), k ≤ 0x1DFF →
    let high : Word := BitVec.ofNat 16 (0xE000 + k)
    let low : Word := BitVec.ofNat 16 (0xC000 + k)
    m.readByte high = m.readByte low ∧ m.writeByte high v = m.writeByte low v ∧
    ∃ m', m.writeByte high v = .ok m' ∧ m'.readByte low = .ok v

/-- R93, R82, R84: a write changes the byte it stores and no other: addresses that name another byte read as before. The only further
effect is that of a write to 0xFF50, after which 0x0000 to 0x00FF read the ROM; no other write moves inBIOS. -/
def Obligations.WritesChangeOneByte : Prop :=
  ∀ (m m' : Mmu) (a : Word) (v : Byte), m.writeByte a v = .ok m' →
    m.sameOutside m' [a] ∧ m'.bios = m.bios ∧ (m'.inBios = if a = 0xFF50 then false else m.inBios) ∧
    (a = 0xFF50 → ∀ (b : Word) (rom : Memory), b.toNat ≤ 0x00FF → m.rom = some rom →
      m'.readByte b = .ok (Memory.get rom b.toNat))

/-! ### Registers (10_state.md) -/

/-- R31, R33, R34, R32: the pairs are views of the 8-bit registers, a write of one half is seen in the pair, and F is written with
its low nibble zero. -/
def Obligations.PairsAreViewsOfTheirHalves : Prop :=
  ∀ (r : Regs) (v : Word) (b : Byte) (x : Reg8),
    (∀ p, (r.set16 p v).get16 p = v) ∧ (∀ p, p ≠ .af → (r.setStack p v).getStack p = v) ∧
    (r.setStack .af v).getStack .af = v &&& 0xFFF0 ∧ (v.toNat % 0x10 = 0 → (r.setStack .af v).getStack .af = v) ∧
    r.get16 .bc = BitVec.ofNat 16 (r.b.toNat * 0x100 + r.c.toNat) ∧ r.get16 .de = BitVec.ofNat 16 (r.d.toNat * 0x100 + r.e.toNat) ∧
    r.get16 .hl = BitVec.ofNat 16 (r.h.toNat * 0x100 + r.l.toNat) ∧ r.getStack .af = BitVec.ofNat 16 (r.a.toNat * 0x100 + r.f.toNat) ∧
    ((r.set8 .b b).get16 .bc).toNat = b.toNat * 0x100 + r.c.toNat ∧
    (r.set8 x b).get8 x = b ∧ (∀ y, y ≠ x → (r.set8 x b).get8 y = r.get8 y) ∧
    (r.set8 x b).f = r.f ∧ (r.set8 x b).sp = r.sp ∧ (r.set8 x b).pc = r.pc

/-! ### Reset, images and run (70_reset_and_hazards.md, 20_memory.md, 30_encoding.md) -/

/-- R561, R562, R563, R564, R566: `reset()` with and without a BIOS image: every register, the clock, inBIOS and the latches, memory
untouched; a second reset changes nothing. The run state, IME, ei_pending and fault after reset are the spec's values
(92_eei_decisions.md D9). -/
def Obligations.ResetSetsTheResetState : Prop :=
  ∀ s : State,
    (s.mmu.bios.isSome = true → s.hostReset =
      { regs := { a := 0, f := 0, b := 0, c := 0, d := 0, e := 0, h := 0, l := 0, sp := 0, pc := 0 },
        mmu := { s.mmu with inBios := true }, clock := 0, runState := .running, ime := false, eiPending := false, fault := none }) ∧
    (s.mmu.bios = none → s.hostReset =
      { regs := { a := 0x01, f := 0xB0, b := 0x00, c := 0x13, d := 0x00, e := 0xD8, h := 0x01, l := 0x4D, sp := 0xFFFE, pc := 0x0100 },
        mmu := { s.mmu with inBios := false }, clock := 0, runState := .running, ime := false, eiPending := false, fault := none }) ∧
    s.hostReset.hostReset = s.hostReset ∧
    (∀ a, s.hostReset.mmu.writable a ↔ s.mmu.writable a) ∧
    (∃ ram, State.construct none ram = .ok State.reset)

/-- R94, R95, R508: `loadROM` takes exactly 32,768 bytes and `setBIOS` exactly 256; any other length answers `InvalidRomSize(n)`, latching
nothing. A loaded image is read back byte for byte, and nothing but its buffer changes. -/
def Obligations.ImagesAreLoadedWhole : Prop :=
  ∀ (s : State) (bytes : List Byte),
    (bytes.length ≠ 32768 → s.loadRom bytes = .error (.invalidRomSize bytes.length)) ∧
    (bytes.length ≠ 256 → s.setBios bytes = .error (.invalidRomSize bytes.length)) ∧
    (bytes.length = 32768 → ∃ rom, s.loadRom bytes = .ok { s with mmu := { s.mmu with rom := some rom } } ∧
      ∀ i (h : i < bytes.length), Memory.get rom i = bytes[i]) ∧
    (bytes.length = 256 → ∃ bios, s.setBios bytes = .ok { s with mmu := { s.mmu with bios := some bios } } ∧
      ∀ i (h : i < bytes.length), Memory.get bios i = bytes[i])

/-- R132, R500: what a step answers the host, and the loop of `run(until)` over it. A step answers `Done(n)` with n the M-cycles it
added, 0 only in a Stopped core, or the fault it latched, or the refusal of the fault latched before. `run` takes one step at least;
it returns that step's state and answer where the answer is a fault or a refusal, the clock has met the argument, or the core is
Stopped, and otherwise goes on from that state, with the clock further on. So it ends, and for one of these causes. That the argument
is a value of the clock is R132's pseudocode; 92_eei_decisions.md D28 words it as a budget the clock advances by (log entry 14). -/
def Obligations.RunEndsWithACause : Prop :=
  ∀ (s : State) (target : Nat),
    (∀ t, step s = .next t → t.fault = none →
      ∃ n, s.hostStep = (t, .done n) ∧ t.clock = s.clock + n ∧ (n = 0 → s.runState = .stopped)) ∧
    (∀ t e, step s = .next t → t.fault = some e → s.hostStep = (t, .fault e)) ∧
    (∀ e, s.fault = some e → s.hostStep = (s, .refused (.faulted e))) ∧
    (let t := s.hostStep.1
     let returns : Prop := (∀ n, s.hostStep.2 ≠ .done n) ∨ target ≤ t.clock ∨ t.runState = .stopped
     (returns → s.run target = s.hostStep) ∧ (¬ returns → s.run target = t.run target ∧ s.clock < t.clock)) ∧
    ((s.run target).2 ≠ .done 0 ∨ s.runState = .stopped) ∧
    match (s.run target).2 with
    | .done _ => (s.run target).1.fault = none ∧ (target ≤ (s.run target).1.clock ∨ (s.run target).1.runState = .stopped)
    | .fault e => (s.run target).1.fault = some e ∧ s.fault = none
    | .refused r => ∃ e, r = .faulted e ∧ s.fault = some e ∧ (s.run target).1 = s
end

