-- ==== Sys2Proof/Laws/State.lean ====
section
/-! SUPPORT. One lemma per field per update of the state, and the register file's read-after-write lemmas. -/

namespace Sys2Proof.Machine

/-! ### `State.withRegs` -/

@[simp] theorem State.withRegs_regs (s : State) (r : Regs) : (s.withRegs r).regs = r := rfl
@[simp] theorem State.withRegs_mmu (s : State) (r : Regs) : (s.withRegs r).mmu = s.mmu := rfl
@[simp] theorem State.withRegs_clock (s : State) (r : Regs) : (s.withRegs r).clock = s.clock := rfl
@[simp] theorem State.withRegs_runState (s : State) (r : Regs) : (s.withRegs r).runState = s.runState := rfl
@[simp] theorem State.withRegs_ime (s : State) (r : Regs) : (s.withRegs r).ime = s.ime := rfl
@[simp] theorem State.withRegs_eiPending (s : State) (r : Regs) : (s.withRegs r).eiPending = s.eiPending := rfl
@[simp] theorem State.withRegs_fault (s : State) (r : Regs) : (s.withRegs r).fault = s.fault := rfl

/-! ### `State.withMmu` -/

@[simp] theorem State.withMmu_regs (s : State) (m : Mmu) : (s.withMmu m).regs = s.regs := rfl
@[simp] theorem State.withMmu_mmu (s : State) (m : Mmu) : (s.withMmu m).mmu = m := rfl
@[simp] theorem State.withMmu_clock (s : State) (m : Mmu) : (s.withMmu m).clock = s.clock := rfl
@[simp] theorem State.withMmu_runState (s : State) (m : Mmu) : (s.withMmu m).runState = s.runState := rfl
@[simp] theorem State.withMmu_ime (s : State) (m : Mmu) : (s.withMmu m).ime = s.ime := rfl
@[simp] theorem State.withMmu_eiPending (s : State) (m : Mmu) : (s.withMmu m).eiPending = s.eiPending := rfl
@[simp] theorem State.withMmu_fault (s : State) (m : Mmu) : (s.withMmu m).fault = s.fault := rfl

/-! ### `State.jump` -/

@[simp] theorem State.jump_regs (s : State) (a : Word) : (s.jump a).regs = { s.regs with pc := a } := rfl
@[simp] theorem State.jump_mmu (s : State) (a : Word) : (s.jump a).mmu = s.mmu := rfl
@[simp] theorem State.jump_clock (s : State) (a : Word) : (s.jump a).clock = s.clock := rfl
@[simp] theorem State.jump_runState (s : State) (a : Word) : (s.jump a).runState = s.runState := rfl
@[simp] theorem State.jump_ime (s : State) (a : Word) : (s.jump a).ime = s.ime := rfl
@[simp] theorem State.jump_eiPending (s : State) (a : Word) : (s.jump a).eiPending = s.eiPending := rfl
@[simp] theorem State.jump_fault (s : State) (a : Word) : (s.jump a).fault = s.fault := rfl

/-! ### `State.advance` -/

@[simp] theorem State.advance_regs (s : State) (n : Nat) : (s.advance n).regs = { s.regs with pc := s.regs.pc + BitVec.ofNat 16 n } := rfl
@[simp] theorem State.advance_mmu (s : State) (n : Nat) : (s.advance n).mmu = s.mmu := rfl
@[simp] theorem State.advance_clock (s : State) (n : Nat) : (s.advance n).clock = s.clock := rfl
@[simp] theorem State.advance_runState (s : State) (n : Nat) : (s.advance n).runState = s.runState := rfl
@[simp] theorem State.advance_ime (s : State) (n : Nat) : (s.advance n).ime = s.ime := rfl
@[simp] theorem State.advance_eiPending (s : State) (n : Nat) : (s.advance n).eiPending = s.eiPending := rfl
@[simp] theorem State.advance_fault (s : State) (n : Nat) : (s.advance n).fault = s.fault := rfl

/-! ### `State.tick` -/

@[simp] theorem State.tick_regs (s : State) (n : Nat) : (s.tick n).regs = s.regs := rfl
@[simp] theorem State.tick_mmu (s : State) (n : Nat) : (s.tick n).mmu = s.mmu := rfl
@[simp] theorem State.tick_clock (s : State) (n : Nat) : (s.tick n).clock = s.clock + n := rfl
@[simp] theorem State.tick_runState (s : State) (n : Nat) : (s.tick n).runState = s.runState := rfl
@[simp] theorem State.tick_ime (s : State) (n : Nat) : (s.tick n).ime = s.ime := rfl
@[simp] theorem State.tick_eiPending (s : State) (n : Nat) : (s.tick n).eiPending = s.eiPending := rfl
@[simp] theorem State.tick_fault (s : State) (n : Nat) : (s.tick n).fault = s.fault := rfl

/-! ### `State.setSP` -/

@[simp] theorem State.setSP_regs (s : State) (v : Word) : (s.setSP v).regs = { s.regs with sp := v } := rfl
@[simp] theorem State.setSP_mmu (s : State) (v : Word) : (s.setSP v).mmu = s.mmu := rfl
@[simp] theorem State.setSP_clock (s : State) (v : Word) : (s.setSP v).clock = s.clock := rfl
@[simp] theorem State.setSP_runState (s : State) (v : Word) : (s.setSP v).runState = s.runState := rfl
@[simp] theorem State.setSP_ime (s : State) (v : Word) : (s.setSP v).ime = s.ime := rfl
@[simp] theorem State.setSP_eiPending (s : State) (v : Word) : (s.setSP v).eiPending = s.eiPending := rfl
@[simp] theorem State.setSP_fault (s : State) (v : Word) : (s.setSP v).fault = s.fault := rfl

/-! ### `State.setRunState` -/

@[simp] theorem State.setRunState_regs (s : State) (r : RunState) : (s.setRunState r).regs = s.regs := rfl
@[simp] theorem State.setRunState_mmu (s : State) (r : RunState) : (s.setRunState r).mmu = s.mmu := rfl
@[simp] theorem State.setRunState_clock (s : State) (r : RunState) : (s.setRunState r).clock = s.clock := rfl
@[simp] theorem State.setRunState_runState (s : State) (r : RunState) : (s.setRunState r).runState = r := rfl
@[simp] theorem State.setRunState_ime (s : State) (r : RunState) : (s.setRunState r).ime = s.ime := rfl
@[simp] theorem State.setRunState_eiPending (s : State) (r : RunState) : (s.setRunState r).eiPending = s.eiPending := rfl
@[simp] theorem State.setRunState_fault (s : State) (r : RunState) : (s.setRunState r).fault = s.fault := rfl

/-! ### `State.setIme` -/

@[simp] theorem State.setIme_regs (s : State) (i e : Bool) : (s.setIme i e).regs = s.regs := rfl
@[simp] theorem State.setIme_mmu (s : State) (i e : Bool) : (s.setIme i e).mmu = s.mmu := rfl
@[simp] theorem State.setIme_clock (s : State) (i e : Bool) : (s.setIme i e).clock = s.clock := rfl
@[simp] theorem State.setIme_runState (s : State) (i e : Bool) : (s.setIme i e).runState = s.runState := rfl
@[simp] theorem State.setIme_ime (s : State) (i e : Bool) : (s.setIme i e).ime = i := rfl
@[simp] theorem State.setIme_eiPending (s : State) (i e : Bool) : (s.setIme i e).eiPending = e := rfl
@[simp] theorem State.setIme_fault (s : State) (i e : Bool) : (s.setIme i e).fault = s.fault := rfl

/-! ### `State.setFlags` -/

@[simp] theorem State.setFlags_regs (s : State) (x : Flags) : (s.setFlags x).regs = { s.regs with f := x.pack } := rfl
@[simp] theorem State.setFlags_mmu (s : State) (x : Flags) : (s.setFlags x).mmu = s.mmu := rfl
@[simp] theorem State.setFlags_clock (s : State) (x : Flags) : (s.setFlags x).clock = s.clock := rfl
@[simp] theorem State.setFlags_runState (s : State) (x : Flags) : (s.setFlags x).runState = s.runState := rfl
@[simp] theorem State.setFlags_ime (s : State) (x : Flags) : (s.setFlags x).ime = s.ime := rfl
@[simp] theorem State.setFlags_eiPending (s : State) (x : Flags) : (s.setFlags x).eiPending = s.eiPending := rfl
@[simp] theorem State.setFlags_fault (s : State) (x : Flags) : (s.setFlags x).fault = s.fault := rfl

/-! ### `State.set8` -/

@[simp] theorem State.set8_regs (s : State) (x : Reg8) (v : Byte) : (s.set8 x v).regs = s.regs.set8 x v := rfl
@[simp] theorem State.set8_mmu (s : State) (x : Reg8) (v : Byte) : (s.set8 x v).mmu = s.mmu := rfl
@[simp] theorem State.set8_clock (s : State) (x : Reg8) (v : Byte) : (s.set8 x v).clock = s.clock := rfl
@[simp] theorem State.set8_runState (s : State) (x : Reg8) (v : Byte) : (s.set8 x v).runState = s.runState := rfl
@[simp] theorem State.set8_ime (s : State) (x : Reg8) (v : Byte) : (s.set8 x v).ime = s.ime := rfl
@[simp] theorem State.set8_eiPending (s : State) (x : Reg8) (v : Byte) : (s.set8 x v).eiPending = s.eiPending := rfl
@[simp] theorem State.set8_fault (s : State) (x : Reg8) (v : Byte) : (s.set8 x v).fault = s.fault := rfl

/-! ### `State.set16` -/

@[simp] theorem State.set16_regs (s : State) (p : Pair) (v : Word) : (s.set16 p v).regs = s.regs.set16 p v := rfl
@[simp] theorem State.set16_mmu (s : State) (p : Pair) (v : Word) : (s.set16 p v).mmu = s.mmu := rfl
@[simp] theorem State.set16_clock (s : State) (p : Pair) (v : Word) : (s.set16 p v).clock = s.clock := rfl
@[simp] theorem State.set16_runState (s : State) (p : Pair) (v : Word) : (s.set16 p v).runState = s.runState := rfl
@[simp] theorem State.set16_ime (s : State) (p : Pair) (v : Word) : (s.set16 p v).ime = s.ime := rfl
@[simp] theorem State.set16_eiPending (s : State) (p : Pair) (v : Word) : (s.set16 p v).eiPending = s.eiPending := rfl
@[simp] theorem State.set16_fault (s : State) (p : Pair) (v : Word) : (s.set16 p v).fault = s.fault := rfl

/-! ### `State.setStack` -/

@[simp] theorem State.setStack_regs (s : State) (p : StackPair) (v : Word) : (s.setStack p v).regs = s.regs.setStack p v := rfl
@[simp] theorem State.setStack_mmu (s : State) (p : StackPair) (v : Word) : (s.setStack p v).mmu = s.mmu := rfl
@[simp] theorem State.setStack_clock (s : State) (p : StackPair) (v : Word) : (s.setStack p v).clock = s.clock := rfl
@[simp] theorem State.setStack_runState (s : State) (p : StackPair) (v : Word) : (s.setStack p v).runState = s.runState := rfl
@[simp] theorem State.setStack_ime (s : State) (p : StackPair) (v : Word) : (s.setStack p v).ime = s.ime := rfl
@[simp] theorem State.setStack_eiPending (s : State) (p : StackPair) (v : Word) : (s.setStack p v).eiPending = s.eiPending := rfl
@[simp] theorem State.setStack_fault (s : State) (p : StackPair) (v : Word) : (s.setStack p v).fault = s.fault := rfl

/-! ### `State.takeFault` -/

@[simp] theorem State.takeFault_regs (s : State) (k : Nat) (e : Fault) : (s.takeFault k e).regs = { s.regs with pc := s.regs.pc + BitVec.ofNat 16 k } := rfl
@[simp] theorem State.takeFault_mmu (s : State) (k : Nat) (e : Fault) : (s.takeFault k e).mmu = s.mmu := rfl
@[simp] theorem State.takeFault_clock (s : State) (k : Nat) (e : Fault) : (s.takeFault k e).clock = s.clock := rfl
@[simp] theorem State.takeFault_runState (s : State) (k : Nat) (e : Fault) : (s.takeFault k e).runState = s.runState := rfl
@[simp] theorem State.takeFault_ime (s : State) (k : Nat) (e : Fault) : (s.takeFault k e).ime = s.ime := rfl
@[simp] theorem State.takeFault_eiPending (s : State) (k : Nat) (e : Fault) : (s.takeFault k e).eiPending = s.eiPending := rfl
@[simp] theorem State.takeFault_fault (s : State) (k : Nat) (e : Fault) : (s.takeFault k e).fault = some e := rfl

/-! ### The register file -/

@[simp] theorem Regs.set8_f (r : Regs) (x : Reg8) (v : Byte) : (r.set8 x v).f = r.f := by cases x <;> rfl
@[simp] theorem Regs.set8_sp (r : Regs) (x : Reg8) (v : Byte) : (r.set8 x v).sp = r.sp := by cases x <;> rfl
@[simp] theorem Regs.set8_pc (r : Regs) (x : Reg8) (v : Byte) : (r.set8 x v).pc = r.pc := by cases x <;> rfl
@[simp] theorem Regs.set16_a (r : Regs) (p : Pair) (v : Word) : (r.set16 p v).a = r.a := by cases p <;> rfl
@[simp] theorem Regs.set16_f (r : Regs) (p : Pair) (v : Word) : (r.set16 p v).f = r.f := by cases p <;> rfl
@[simp] theorem Regs.set16_pc (r : Regs) (p : Pair) (v : Word) : (r.set16 p v).pc = r.pc := by cases p <;> rfl
@[simp] theorem Regs.setStack_sp (r : Regs) (p : StackPair) (v : Word) : (r.setStack p v).sp = r.sp := by cases p <;> rfl
@[simp] theorem Regs.setStack_pc (r : Regs) (p : StackPair) (v : Word) : (r.setStack p v).pc = r.pc := by cases p <;> rfl

/-- R31: a register reads as it was last written, and no other register changes. -/
theorem Regs.get8_set8 (r : Regs) (x y : Reg8) (v : Byte) :
    (r.set8 x v).get8 y = if x = y then v else r.get8 y := by
  cases x <;> cases y <;> rfl

@[simp] theorem Regs.get8_set8_self (r : Regs) (x : Reg8) (v : Byte) : (r.set8 x v).get8 x = v := by
  cases x <;> rfl

theorem hi8_append_lo8 (v : Word) : (hi8 v ++ lo8 v : Word) = v := by
  apply BitVec.eq_of_toNat_eq
  simp only [hi8, lo8, BitVec.toNat_append, BitVec.toNat_setWidth, BitVec.toNat_ushiftRight, Nat.shiftRight_eq_div_pow,
    Nat.shiftLeft_eq]
  rw [← Nat.shiftLeft_eq, ← Nat.shiftLeft_add_eq_or_of_lt (by omega), Nat.shiftLeft_eq]
  omega

@[simp] theorem hi8_append (h l : Byte) : hi8 (h ++ l : Word) = h := by
  apply BitVec.eq_of_getLsbD_eq
  intro i hi
  simp only [hi8, BitVec.getLsbD_setWidth, BitVec.getLsbD_ushiftRight, BitVec.getLsbD_append]
  simp [hi]

@[simp] theorem lo8_append (h l : Byte) : lo8 (h ++ l : Word) = l := by
  apply BitVec.eq_of_getLsbD_eq
  intro i hi
  simp only [lo8, BitVec.getLsbD_setWidth, BitVec.getLsbD_append]
  simp [hi]

/-- R33: a pair reads as it was last written. -/
@[simp] theorem Regs.get16_set16 (r : Regs) (p : Pair) (v : Word) : (r.set16 p v).get16 p = v := by
  cases p <;> simp [Regs.set16, Regs.get16, Regs.bc, Regs.de, Regs.hl, hi8_append_lo8]

/-! ### F (R32, R35) -/

/-- R35: the layout of F, as numbers. -/
theorem Flags.pack_eq_flagByte (x : Flags) : x.pack = flagByte x.z x.n x.h x.c := by
  obtain ⟨z, n, h, c⟩ := x
  revert z n h c; decide

/-- R32, R50: whatever is written to F, its low nibble reads as 0. -/
@[simp] theorem Flags.pack_low (x : Flags) : x.pack &&& 0x0F = 0 := by
  obtain ⟨z, n, h, c⟩ := x
  revert z n h c; decide

/-- The flags read as they were last written. -/
@[simp] theorem State.flags_setFlags (s : State) (x : Flags) : (s.setFlags x).flags = x := by
  obtain ⟨z, n, h, c⟩ := x
  show Regs.flags { s.regs with f := Flags.pack ⟨z, n, h, c⟩ } = _
  simp only [Regs.flags]
  revert z n h c; decide

@[simp] theorem State.flags_advance (s : State) (n : Nat) : (s.advance n).flags = s.flags := rfl

@[simp] theorem State.flags_tick (s : State) (n : Nat) : (s.tick n).flags = s.flags := rfl

@[simp] theorem State.flags_set8 (s : State) (x : Reg8) (v : Byte) : (s.set8 x v).flags = s.flags := by
  cases x <;> rfl

end Sys2Proof.Machine
end

