-- ==== Sys2Proof/Laws/Memory.lean ====
section
/-! SUPPORT. The buffers and the MMU: read after write, the canonical form, and what one write of a byte can do. -/

namespace Sys2Proof.Machine

/-! ### A buffer -/

theorem Memory.get_erase (m : Memory) (i j : Nat) :
    Memory.get (Memory.erase m i) j = if i = j then Config.unlistedByte else Memory.get m j := by
  induction m with
  | nil => simp [Memory.erase, Memory.get]
  | cons p m ih =>
    obtain ⟨k, w⟩ := p
    simp only [Memory.erase, Memory.get]
    split <;> rename_i hk
    · rw [ih]; subst hk; split <;> simp_all
    · simp only [Memory.get, ih]; split <;> split <;> simp_all

theorem Memory.get_insert (m : Memory) (i j : Nat) (v : Byte) :
    Memory.get (Memory.insert m i v) j = if i = j then v else Memory.get m j := by
  induction m with
  | nil => simp [Memory.insert, Memory.get]
  | cons p m ih =>
    obtain ⟨k, w⟩ := p
    simp only [Memory.insert]
    split
    · simp [Memory.get]
    · split
      · rename_i h; subst h; simp only [Memory.get]; split <;> simp_all
      · simp only [Memory.get, ih]; split <;> split <;> simp_all

/-- A write to one index is read back there and nowhere else. -/
theorem Memory.get_set (m : Memory) (i j : Nat) (v : Byte) :
    Memory.get (Memory.set m i v) j = if i = j then v else Memory.get m j := by
  unfold Memory.set
  split
  · rename_i h; rw [Memory.get_erase, h]
  · exact Memory.get_insert m i j v

theorem Memory.wfFrom_cons (size lo k : Nat) (v : Byte) (m : Memory) :
    Memory.wfFrom size lo ((k, v) :: m) = true ↔
      lo ≤ k ∧ k < size ∧ v ≠ Config.unlistedByte ∧ Memory.wfFrom size (k + 1) m = true := by
  simp [Memory.wfFrom, and_assoc]

theorem Memory.wfFrom_mono {size lo lo' : Nat} {m : Memory} (hl : lo' ≤ lo) (h : Memory.wfFrom size lo m = true) :
    Memory.wfFrom size lo' m = true := by
  cases m with
  | nil => rfl
  | cons p m =>
    obtain ⟨k, v⟩ := p
    rw [Memory.wfFrom_cons] at *
    exact ⟨by omega, h.2⟩

theorem Memory.wfFrom_erase {size lo : Nat} {m : Memory} (i : Nat) (h : Memory.wfFrom size lo m = true) :
    Memory.wfFrom size lo (Memory.erase m i) = true := by
  induction m generalizing lo with
  | nil => rfl
  | cons p m ih =>
    obtain ⟨k, v⟩ := p
    rw [Memory.wfFrom_cons] at h
    unfold Memory.erase
    split
    · exact Memory.wfFrom_mono (by omega) (ih h.2.2.2)
    · rw [Memory.wfFrom_cons]; exact ⟨h.1, h.2.1, h.2.2.1, ih h.2.2.2⟩

theorem Memory.wfFrom_insert {size lo i : Nat} {v : Byte} {m : Memory} (hlo : lo ≤ i) (hi : i < size)
    (hv : v ≠ Config.unlistedByte) (h : Memory.wfFrom size lo m = true) :
    Memory.wfFrom size lo (Memory.insert m i v) = true := by
  induction m generalizing lo with
  | nil => exact (Memory.wfFrom_cons ..).2 ⟨hlo, hi, hv, rfl⟩
  | cons p m ih =>
    obtain ⟨k, w⟩ := p
    rw [Memory.wfFrom_cons] at h
    unfold Memory.insert
    split
    · rw [Memory.wfFrom_cons, Memory.wfFrom_cons]
      exact ⟨hlo, hi, hv, by omega, h.2⟩
    · split
      · rename_i hk; subst hk; rw [Memory.wfFrom_cons]; exact ⟨hlo, hi, hv, h.2.2.2⟩
      · rw [Memory.wfFrom_cons]; exact ⟨h.1, h.2.1, h.2.2.1, ih (by omega) h.2.2.2⟩

/-- A write keeps the canonical form. -/
theorem Memory.wf_set {size i : Nat} {m : Memory} (v : Byte) (hi : i < size) (h : Memory.wf size m = true) :
    Memory.wf size (Memory.set m i v) = true := by
  unfold Memory.set
  split
  · exact Memory.wfFrom_erase i h
  · rename_i hv; exact Memory.wfFrom_insert (Nat.zero_le i) hi hv h

theorem Memory.wfFrom_ofBytes {size lo : Nat} (bytes : List Byte) (h : lo + bytes.length ≤ size) :
    Memory.wfFrom size lo (Memory.ofBytes lo bytes) = true := by
  induction bytes generalizing lo with
  | nil => rfl
  | cons v vs ih =>
    simp only [List.length_cons] at h
    unfold Memory.ofBytes
    split
    · exact Memory.wfFrom_mono (Nat.le_succ lo) (ih (by omega))
    · rename_i hv; rw [Memory.wfFrom_cons]; exact ⟨le_refl lo, by omega, hv, ih (by omega)⟩

/-- An image of the right length is a canonical buffer. -/
theorem Memory.wf_ofBytes {size : Nat} {bytes : List Byte} (h : bytes.length = size) :
    Memory.wf size (Memory.ofBytes 0 bytes) = true :=
  Memory.wfFrom_ofBytes bytes (by omega)

theorem Memory.get_ofBytes (bytes : List Byte) (lo i : Nat) :
    Memory.get (Memory.ofBytes lo bytes) (lo + i) = bytes.getD i Config.unlistedByte := by
  have below : ∀ (vs : List Byte) (lo j : Nat), j < lo → Memory.get (Memory.ofBytes lo vs) j = Config.unlistedByte := by
    intro vs
    induction vs with
    | nil => intros; rfl
    | cons v vs ih =>
      intro lo j hj
      unfold Memory.ofBytes
      split
      · exact ih _ _ (by omega)
      · simp only [Memory.get, if_neg (show lo ≠ j by omega)]; exact ih _ _ (by omega)
  induction bytes generalizing lo i with
  | nil => simp [Memory.ofBytes, Memory.get]
  | cons v vs ih =>
    unfold Memory.ofBytes
    cases i with
    | zero =>
      simp only [Nat.add_zero, List.getD_cons_zero]
      split
      · rename_i hv; rw [hv]; exact below vs _ _ (by omega)
      · simp [Memory.get]
    | succ i =>
      have h := ih (lo + 1) i
      rw [show lo + 1 + i = lo + (i + 1) by omega] at h
      simp only [List.getD_cons_succ]
      split
      · exact h
      · simp only [Memory.get, if_neg (show lo ≠ lo + (i + 1) by omega)]; exact h

/-! ### One write of a byte -/

/-- The index of a cell is inside its buffer. -/
def Slot.InRange : Slot → Prop
  | .rom i => i < Config.romSize
  | .vram i => i < Config.ramSize
  | .eram i => i < Config.ramSize
  | .wram i => i < Config.ramSize
  | .oam i => i < Config.oamSize
  | .unused => True
  | .io i => i < Config.ioSize
  | .zp i => i < Config.zpSize
  | .ie => True

theorem slotOf_inRange (a : Word) : (slotOf a).InRange := by
  have ha := a.isLt
  simp only [slotOf]
  repeat' split
  all_goals simp only [Slot.InRange, Config.romSize, Config.ramSize, Config.oamSize, Config.ioSize, Config.zpSize]
  all_goals omega

theorem slotOf_bootAddr : slotOf bootAddr = .io 0x50 := by decide

theorem slotOf_ifAddr : slotOf ifAddr = .io 0x0F := by decide

theorem ne_bootAddr {a : Word} (h : slotOf a ≠ .io 0x50) : a ≠ bootAddr := fun e => h (e ▸ slotOf_bootAddr)

/-- What one write of a byte can do: it never touches the BIOS image, keeps the ROM absent or present, and changes inBIOS only
at the BOOT register, to false (R76, R84, D1, D4). -/
theorem Mmu.writeByte_latch {m m' : Mmu} {a : Word} {v : Byte} (h : m.writeByte a v = .ok m') :
    m'.bios = m.bios ∧ m'.rom.isSome = m.rom.isSome ∧ m'.inBios = (m.inBios && decide (a ≠ bootAddr)) := by
  unfold Mmu.writeByte at h
  split at h
  case h_7 i hs =>
    cases h
    by_cases hb : a = bootAddr <;> simp [hb]
  case h_1 i hs =>
    have hb := ne_bootAddr (a := a) (by rw [hs]; simp)
    split at h <;> cases h
    rename_i hr; simp [hb, hr]
  all_goals
    rename_i hs
    have hb := ne_bootAddr (a := a) (by rw [hs]; simp)
    cases h
    simp [hb]

/-- A write of a byte keeps the canonical form of every buffer. -/
theorem Mmu.writeByte_wf {m m' : Mmu} {a : Word} {v : Byte} (hw : m.wf = true) (h : m.writeByte a v = .ok m') :
    m'.wf = true := by
  have hr := slotOf_inRange a
  simp only [Mmu.wf, Bool.and_eq_true] at hw ⊢
  obtain ⟨⟨⟨⟨⟨⟨⟨h1, h2⟩, h3⟩, h4⟩, h5⟩, h6⟩, h7⟩, h8⟩ := hw
  unfold Mmu.writeByte at h
  split at h <;> rename_i hs <;> rw [hs] at hr
  case h_1 i =>
    split at h <;> cases h
    rename_i r hrom
    rw [hrom] at h2
    exact ⟨⟨⟨⟨⟨⟨⟨h1, Memory.wf_set v hr h2⟩, h3⟩, h4⟩, h5⟩, h6⟩, h7⟩, h8⟩
  all_goals cases h
  case h_2 i => exact ⟨⟨⟨⟨⟨⟨⟨h1, h2⟩, Memory.wf_set v hr h3⟩, h4⟩, h5⟩, h6⟩, h7⟩, h8⟩
  case h_3 i => exact ⟨⟨⟨⟨⟨⟨⟨h1, h2⟩, h3⟩, Memory.wf_set v hr h4⟩, h5⟩, h6⟩, h7⟩, h8⟩
  case h_4 i => exact ⟨⟨⟨⟨⟨⟨⟨h1, h2⟩, h3⟩, h4⟩, Memory.wf_set v hr h5⟩, h6⟩, h7⟩, h8⟩
  case h_5 i => exact ⟨⟨⟨⟨⟨⟨⟨h1, h2⟩, h3⟩, h4⟩, h5⟩, Memory.wf_set v hr h6⟩, h7⟩, h8⟩
  case h_7 i => exact ⟨⟨⟨⟨⟨⟨⟨h1, h2⟩, h3⟩, h4⟩, h5⟩, h6⟩, Memory.wf_set v hr h7⟩, h8⟩
  case h_8 i => exact ⟨⟨⟨⟨⟨⟨⟨h1, h2⟩, h3⟩, h4⟩, h5⟩, h6⟩, h7⟩, Memory.wf_set v hr h8⟩
  all_goals exact ⟨⟨⟨⟨⟨⟨⟨h1, h2⟩, h3⟩, h4⟩, h5⟩, h6⟩, h7⟩, h8⟩

/-- A write of a byte faults only in the ROM region with no ROM loaded, with the address (R87). -/
theorem Mmu.writeByte_error {m : Mmu} {a : Word} {v : Byte} {e : Fault} (h : m.writeByte a v = .error e) :
    e = .unmappedRegion a ∧ a.toNat ≤ 0x7FFF ∧ m.rom = none := by
  unfold Mmu.writeByte at h
  split at h
  case h_1 i hs =>
    split at h <;> cases h
    refine ⟨rfl, ?_, by assumption⟩
    simp only [slotOf] at hs
    by_contra hn
    rw [if_neg hn] at hs
    repeat' split at hs
    all_goals cases hs
  all_goals cases h

/-- A read of a byte faults only in the ROM region, with the address, where no ROM is loaded or the overlay has no image. -/
theorem Mmu.readByte_error {m : Mmu} {a : Word} {e : Fault} (h : m.readByte a = .error e) :
    e = .unmappedRegion a ∧ a.toNat ≤ 0x7FFF ∧ (m.rom = none ∨ (m.inBios = true ∧ m.bios = none)) := by
  unfold Mmu.readByte at h
  split at h
  · rename_i ho
    simp only [Mmu.overlaid, Bool.and_eq_true, decide_eq_true_eq] at ho
    split at h <;> cases h
    rename_i hb
    exact ⟨rfl, by omega, .inr ⟨ho.1, hb⟩⟩
  · unfold Mmu.readSlot at h
    split at h
    case h_1 i hs =>
      split at h <;> cases h
      refine ⟨rfl, ?_, .inl (by assumption)⟩
      simp only [slotOf] at hs
      by_contra hn
      rw [if_neg hn] at hs
      repeat' split at hs
      all_goals cases hs
    all_goals cases h

theorem Mmu.writeByte_mapped {m : Mmu} (hm : m.mapped) (a : Word) (v : Byte) :
    ∃ m', m.writeByte a v = .ok m' ∧ m'.mapped := by
  cases h : m.writeByte a v with
  | error e => have := (Mmu.writeByte_error h).2.2; simp [Mmu.mapped, this] at hm
  | ok m' =>
    obtain ⟨hb, hr, hi⟩ := Mmu.writeByte_latch h
    refine ⟨m', rfl, by rw [hr]; exact hm.1, fun h' => ?_⟩
    rw [hi, Bool.and_eq_true] at h'
    rw [hb]; exact hm.2 h'.1

theorem Mmu.readByte_mapped {m : Mmu} (hm : m.mapped) (a : Word) : ∃ v, m.readByte a = .ok v := by
  cases h : m.readByte a with
  | ok v => exact ⟨v, rfl⟩
  | error e =>
    obtain ⟨-, -, h | ⟨h, h'⟩⟩ := Mmu.readByte_error h
    · simp [Mmu.mapped, h] at hm
    · simpa [h'] using hm.2 h

/-- R98: the byte written is read back, outside the unused region and the overlay. -/
theorem Mmu.readByte_writeByte_same {m m' : Mmu} {a : Word} {v : Byte} (h : m.writeByte a v = .ok m')
    (hu : slotOf a ≠ .unused) (ho : m'.overlaid a = false) : m'.readByte a = .ok v := by
  unfold Mmu.readByte
  rw [ho]
  simp only [Bool.false_eq_true, if_false]
  unfold Mmu.writeByte at h
  split at h
  case h_1 i hs =>
    split at h <;> cases h
    simp [hs, Mmu.readSlot, Memory.get_set]
  case h_6 hs => exact absurd hs hu
  all_goals
    rename_i hs
    cases h
    simp [hs, Mmu.readSlot, Memory.get_set]

/-- A write leaves every other cell alone: an address of another cell reads as before, if the overlay serves it as before. -/
theorem Mmu.readByte_writeByte_other {m m' : Mmu} {a b : Word} {v : Byte} (h : m.writeByte a v = .ok m')
    (hs : slotOf b ≠ slotOf a) (ho : m'.overlaid b = m.overlaid b) : m'.readByte b = m.readByte b := by
  obtain ⟨hb, -, -⟩ := Mmu.writeByte_latch h
  unfold Mmu.readByte
  rw [ho, hb]
  have key : m'.readSlot b (slotOf b) = m.readSlot b (slotOf b) := by
    unfold Mmu.writeByte at h
    split at h
    case h_1 i ha =>
      split at h <;> cases h
      rename_i r hr
      rw [ha] at hs
      cases hsb : slotOf b <;> simp only [Mmu.readSlot, hr]
      rw [Memory.get_set, if_neg]; intro e; exact hs (by rw [hsb, e])
    case h_6 ha => cases h; rfl
    all_goals
      rename_i ha
      cases h
      rw [ha] at hs
      cases hsb : slotOf b <;> simp only [Mmu.readSlot]
      first
      | (rw [Memory.get_set, if_neg]; intro e; exact hs (by rw [hsb, e]))
      | exact absurd hsb hs
  rw [key]

end Sys2Proof.Machine
end

