-- ==== Sys2Proof/Laws/View.lean ====
section
/-! SUPPORT. `exec` by form: the meaning of each row is the meaning of its form at the row's operand fields. A proof about all
instructions splits over the forms of `Form`, not over the 512 rows. -/

namespace Sys2Proof

/-- A row's form names the row. -/
@[simp] theorem Instr.instr_form (i : Instr) : i.form.instr = i := by cases i <;> rfl

/-- A form is the form of its row. -/
@[simp] theorem Form.form_instr (f : Form) : f.instr.form = f := by
  cases f
  case ldRR p o => cases p <;> cases o <;> rfl
  case alu p o => cases p <;> rcases o with r | _ <;> (try cases r) <;> rfl
  case shift p o => cases p <;> rcases o with r | _ <;> (try cases r) <;> rfl
  case bit p o => cases p <;> rcases o with r | _ <;> (try cases r) <;> rfl
  case res p o => cases p <;> rcases o with r | _ <;> (try cases r) <;> rfl
  case set p o => cases p <;> rcases o with r | _ <;> (try cases r) <;> rfl
  case inc8 o => rcases o with r | _ <;> (try cases r) <;> rfl
  case dec8 o => rcases o with r | _ <;> (try cases r) <;> rfl
  case ldRD8 o x => cases o <;> rfl
  case ldRM o => cases o <;> rfl
  case ldMR o => cases o <;> rfl
  case ldAPtr o => cases o <;> rfl
  case ldPtrA o => cases o <;> rfl
  case ldPairD16 o x => cases o <;> rfl
  case aluD8 o x => cases o <;> rfl
  case inc16 o => cases o <;> rfl
  case dec16 o => cases o <;> rfl
  case addHL o => cases o <;> rfl
  case jpCC o x => cases o <;> rfl
  case jrCC o x => cases o <;> rfl
  case callCC o x => cases o <;> rfl
  case retCC o => cases o <;> rfl
  case rst o => cases o <;> rfl
  case push o => cases o <;> rfl
  case pop o => cases o <;> rfl
  case illegal o => cases o <;> rfl
  all_goals rfl

end Sys2Proof

namespace Sys2Proof.Machine

/-- The meaning of a form, over the shared bodies. -/
def execForm (f : Form) (s : State) : Host.Outcome State Fault Refusal :=
  match f with
  | .nop => primary 1 1 (unfailing id) s
  | .halt => primary 1 1 (unfailing fun t => t.setRunState .halted) s
  | .di => primary 1 1 (unfailing fun t => t.setIme false false) s
  | .ei => primary 1 1 (unfailing fun t => t.setIme t.ime true) s
  | .stop _ => primary 2 1 (unfailing fun t => t.setRunState .stopped) s
  | .ldRR dst src => ldRegReg dst src s
  | .ldRD8 r x => ldRegImm r x s
  | .ldRM r => ldRegMem r s
  | .ldMR r => ldMemReg r s
  | .ldMD8 x => primary 2 3 (fun t => t.store t.regs.hl x) s
  | .ldAPtr p => ldAccPtr p s
  | .ldPtrA p => ldPtrAcc p s
  | .ldMIncA => primary 1 2 (storeStep 1) s
  | .ldAMInc => primary 1 2 (loadStep 1) s
  | .ldMDecA => primary 1 2 (storeStep (-1)) s
  | .ldAMDec => primary 1 2 (loadStep (-1)) s
  | .ldhMA x => primary 2 3 (storeFrom .a fun _ => highPage x) s
  | .ldhAM x => primary 2 3 (loadInto .a fun _ => highPage x) s
  | .ldMCA => primary 1 2 (storeFrom .a fun t => highPage t.regs.c) s
  | .ldAMC => primary 1 2 (loadInto .a fun t => highPage t.regs.c) s
  | .ldM16A x => primary 3 4 (storeFrom .a fun _ => x) s
  | .ldAM16 x => primary 3 4 (loadInto .a fun _ => x) s
  | .ldPairD16 p x => ldPairImm p x s
  | .ldM16SP x => primary 3 5 (fun t => t.storeWord x t.regs.sp) s
  | .ldHLSP x => primary 2 3 (unfailing (ldHLSPBody x)) s
  | .ldSPHL => primary 1 2 (unfailing fun t => t.setSP t.regs.hl) s
  | .alu op o => aluOpnd op o s
  | .aluD8 op x => aluImm op x s
  | .inc8 o => incOpnd o s
  | .dec8 o => decOpnd o s
  | .daa => primary 1 1 (unfailing daaBody) s
  | .cpl => primary 1 1 (unfailing cplBody) s
  | .scf => primary 1 1 (unfailing scfBody) s
  | .ccf => primary 1 1 (unfailing ccfBody) s
  | .rlca => primary 1 1 (unfailing (rotateABody .rlc)) s
  | .rrca => primary 1 1 (unfailing (rotateABody .rrc)) s
  | .rla => primary 1 1 (unfailing (rotateABody .rl)) s
  | .rra => primary 1 1 (unfailing (rotateABody .rr)) s
  | .inc16 p => incPair p s
  | .dec16 p => decPair p s
  | .addHL p => addHLPair p s
  | .addSP x => primary 2 4 (unfailing (addSPBody x)) s
  | .jp x => primary 3 4 (jumpBody x) s
  | .jpCC cc x => conditional 3 4 3 cc (jumpBody x) s
  | .jpHL => primary 1 1 (jumpBody s.regs.hl) s
  | .jr x => primary 2 3 (jumpRelBody x) s
  | .jrCC cc x => conditional 2 3 2 cc (jumpRelBody x) s
  | .call x => primary 3 6 (callBody x) s
  | .callCC cc x => conditional 3 6 3 cc (callBody x) s
  | .ret => primary 1 4 retBody s
  | .retCC cc => conditional 1 5 2 cc retBody s
  | .reti => primary 1 4 State.returnFromInterrupt s
  | .rst t => rstStep t s
  | .push p => pushStep p s
  | .pop p => popStep p s
  | .shift op o => shiftOpnd op o s
  | .bit b o => bitOpnd b o s
  | .res b o => resOpnd b o s
  | .set b o => setOpnd b o s
  | .cbPrefix x => cbExecute x s
  | .illegal op => illegalStep op s

/-- Every row runs its form. -/
theorem exec_eq_execForm (i : Instr) (s : State) : exec i s = execForm i.form s := by cases i <;> rfl

/-- Running the row a form names is running the form. -/
@[simp] theorem exec_instr (f : Form) (s : State) : exec f.instr s = execForm f s := by
  rw [exec_eq_execForm, Form.form_instr]

/-- R133, R400: the CB prefix runs the CB table's form of the byte after it. -/
theorem cbExecute_eq (cb : Byte) (s : State) : cbExecute cb s = execForm (cbForm cb) s := by
  unfold cbExecute cbForm
  generalize fieldX cb = x
  match x with
  | 0 | 1 | 2 | _ + 3 => rfl

end Sys2Proof.Machine
end

