-- ==== Sys2Proof/Laws/Ops.lean ====
section
/-! SUPPORT. The shared operations: what each answers, said once. -/

namespace Sys2Proof.Machine

/-! ### Bodies -/

@[simp] theorem unfailing_eq (f : State → State) (s : State) : unfailing f s = .ok (f s) := rfl

/-- An instruction of the primary table whose body runs. -/
theorem primary_ok {len cycles : Nat} {body : State → Except Fault State} {s t : State} (h : body (s.advance len) = .ok t) :
    primary len cycles body s = .next (t.tick cycles) := by
  simp [primary, execute, h]

/-- An instruction of the primary table whose body faults: the state before it, with PC past the opcode (R500). -/
theorem primary_error {len cycles : Nat} {body : State → Except Fault State} {s : State} {e : Fault}
    (h : body (s.advance len) = .error e) : primary len cycles body s = .next (s.takeFault 1 e) := by
  simp [primary, execute, h]

/-- An instruction of the CB table whose body runs. -/
theorem prefixed_ok {cycles : Nat} {body : State → Except Fault State} {s t : State} (h : body (s.advance 2) = .ok t) :
    prefixed cycles body s = .next (t.tick cycles) := by
  simp [prefixed, execute, h]

/-- An instruction of the CB table whose body faults: the state before it, with PC past both opcode bytes (R500). -/
theorem prefixed_error {cycles : Nat} {body : State → Except Fault State} {s : State} {e : Fault}
    (h : body (s.advance 2) = .error e) : prefixed cycles body s = .next (s.takeFault 2 e) := by
  simp [prefixed, execute, h]

@[simp] theorem primary_unfailing (len cycles : Nat) (f : State → State) (s : State) :
    primary len cycles (unfailing f) s = .next ((f (s.advance len)).tick cycles) := rfl

/-! ### Loads and stores -/

@[simp] theorem State.load_advance (s : State) (n : Nat) (a : Word) : (s.advance n).load a = s.load a := rfl

/-- A store changes the MMU only, by one write of a byte. -/
theorem State.store_ok {s t : State} {a : Word} {v : Byte} (h : s.store a v = .ok t) :
    ∃ m, s.mmu.writeByte a v = .ok m ∧ t = s.withMmu m := by
  unfold State.store at h
  cases hw : s.mmu.writeByte a v with
  | error e => rw [hw] at h; cases h
  | ok m => rw [hw] at h; cases h; exact ⟨m, rfl, rfl⟩

theorem State.store_error {s : State} {a : Word} {v : Byte} {e : Fault} (h : s.store a v = .error e) :
    s.mmu.writeByte a v = .error e := by
  unfold State.store at h
  cases hw : s.mmu.writeByte a v with
  | error e' => rw [hw] at h; cases h; rfl
  | ok m => rw [hw] at h; cases h

/-- A word write is the low byte's write, then the high byte's (R89). -/
theorem Mmu.writeWord_ok {m m'' : Mmu} {a v : Word} (h : m.writeWord a v = .ok m'') :
    ∃ m', m.writeByte a (lo8 v) = .ok m' ∧ m'.writeByte (a + 1) (hi8 v) = .ok m'' := by
  unfold Mmu.writeWord at h
  cases hw : m.writeByte a (lo8 v) with
  | error e => rw [hw] at h; cases h
  | ok m' => rw [hw] at h; exact ⟨m', rfl, h⟩

theorem State.storeWord_ok {s t : State} {a v : Word} (h : s.storeWord a v = .ok t) :
    ∃ m, s.mmu.writeWord a v = .ok m ∧ t = s.withMmu m := by
  unfold State.storeWord at h
  cases hw : s.mmu.writeWord a v with
  | error e => rw [hw] at h; cases h
  | ok m => rw [hw] at h; cases h; exact ⟨m, rfl, rfl⟩

/-- R12: a push changes SP and the MMU only. -/
theorem State.push16_ok {s t : State} {v : Word} (h : s.push16 v = .ok t) :
    ∃ m, s.mmu.writeWord (s.regs.sp - 2) v = .ok m ∧ t = (s.setSP (s.regs.sp - 2)).withMmu m :=
  State.storeWord_ok h

/-- R12: a pop changes SP only. -/
theorem State.pop16_ok {s t : State} {v : Word} (h : s.pop16 = .ok (v, t)) :
    s.mmu.readWord s.regs.sp = .ok v ∧ t = s.setSP (s.regs.sp + 2) := by
  unfold State.pop16 at h
  cases hr : s.mmu.readWord s.regs.sp with
  | error e => rw [hr] at h; cases h
  | ok w => rw [hr] at h; cases h; exact ⟨rfl, rfl⟩

/-! ### With every address mapped, no access faults -/

theorem Mmu.writeWord_mapped {m : Mmu} (hm : m.mapped) (a v : Word) : ∃ m', m.writeWord a v = .ok m' ∧ m'.mapped := by
  obtain ⟨m1, h1, hm1⟩ := Mmu.writeByte_mapped hm a (lo8 v)
  obtain ⟨m2, h2, hm2⟩ := Mmu.writeByte_mapped hm1 (a + 1) (hi8 v)
  exact ⟨m2, by simp only [Mmu.writeWord, h1, Except.bind, h2], hm2⟩

theorem Mmu.readWord_mapped {m : Mmu} (hm : m.mapped) (a : Word) : ∃ v, m.readWord a = .ok v := by
  obtain ⟨lo, h1⟩ := Mmu.readByte_mapped hm a
  obtain ⟨hi, h2⟩ := Mmu.readByte_mapped hm (a + 1)
  exact ⟨hi ++ lo, by simp only [Mmu.readWord, h1, h2, Except.bind, Except.map]⟩

theorem State.store_mapped {s : State} (hm : s.mmu.mapped) (a : Word) (v : Byte) :
    ∃ m, s.store a v = .ok (s.withMmu m) ∧ m.mapped := by
  obtain ⟨m, h, hm'⟩ := Mmu.writeByte_mapped hm a v
  exact ⟨m, by simp [State.store, h, Except.map], hm'⟩

theorem State.push16_mapped {s : State} (hm : s.mmu.mapped) (v : Word) :
    ∃ m, s.push16 v = .ok ((s.setSP (s.regs.sp - 2)).withMmu m) ∧ m.mapped := by
  obtain ⟨m, h, hm'⟩ := Mmu.writeWord_mapped hm (s.regs.sp - 2) v
  exact ⟨m, by simp only [State.push16, State.storeWord, State.setSP_mmu, h, Except.map], hm'⟩

theorem State.pop16_mapped {s : State} (hm : s.mmu.mapped) : ∃ v, s.pop16 = .ok (v, s.setSP (s.regs.sp + 2)) := by
  obtain ⟨v, h⟩ := Mmu.readWord_mapped hm s.regs.sp
  exact ⟨v, by simp only [State.pop16, h, Except.map]⟩

/-! ### Where a fault of an access comes from -/

/-- A fault of an access in a hole of the address map: `UnmappedRegion` of an address of the ROM region, where the MMU has no
buffer for it (R87). -/
def Fault.OfHole (e : Fault) (m : Mmu) : Prop := ∃ a, e = .unmappedRegion a ∧ a.toNat ≤ 0x7FFF ∧ ¬ m.mapped

theorem Mmu.readByte_hole {m : Mmu} {a : Word} {e : Fault} (h : m.readByte a = .error e) : e.OfHole m := by
  refine ⟨a, (Mmu.readByte_error h).1, (Mmu.readByte_error h).2.1, fun hm => ?_⟩
  obtain ⟨v, hv⟩ := Mmu.readByte_mapped hm a
  rw [hv] at h; cases h

theorem Mmu.writeByte_hole {m : Mmu} {a : Word} {v : Byte} {e : Fault} (h : m.writeByte a v = .error e) : e.OfHole m := by
  refine ⟨a, (Mmu.writeByte_error h).1, (Mmu.writeByte_error h).2.1, fun hm => ?_⟩
  obtain ⟨m', hv, -⟩ := Mmu.writeByte_mapped hm a v
  rw [hv] at h; cases h

/-! ### What the writes of a step can do to the MMU -/

/-- One MMU follows from another by some writes of bytes. -/
inductive Mmu.Writes : Mmu → Mmu → Prop where
  | refl (m : Mmu) : Mmu.Writes m m
  | tail {m m' m'' : Mmu} {a : Word} {v : Byte} : Mmu.Writes m m' → m'.writeByte a v = .ok m'' → Mmu.Writes m m''

theorem Mmu.Writes.one {m m' : Mmu} {a : Word} {v : Byte} (h : m.writeByte a v = .ok m') : Mmu.Writes m m' :=
  .tail (.refl m) h

theorem Mmu.Writes.trans {m m' m'' : Mmu} (h : Mmu.Writes m m') (h' : Mmu.Writes m' m'') : Mmu.Writes m m'' := by
  induction h' with
  | refl => exact h
  | tail _ hw ih => exact .tail ih hw

theorem Mmu.Writes.word {m m' : Mmu} {a v : Word} (h : m.writeWord a v = .ok m') : Mmu.Writes m m' := by
  obtain ⟨m1, h1, h2⟩ := Mmu.writeWord_ok h
  exact .tail (.one h1) h2

/-- Writes never touch the BIOS image, keep the ROM absent or present, never set inBIOS, and keep the canonical form. -/
theorem Mmu.Writes.latch {m m' : Mmu} (h : Mmu.Writes m m') :
    m'.bios = m.bios ∧ m'.rom.isSome = m.rom.isSome ∧ (m'.inBios = true → m.inBios = true) ∧ (m.wf = true → m'.wf = true) := by
  induction h with
  | refl => exact ⟨rfl, rfl, id, id⟩
  | tail _ hw ih =>
    obtain ⟨h1, h2, h3⟩ := Mmu.writeByte_latch hw
    refine ⟨h1.trans ih.1, h2.trans ih.2.1, fun h' => ih.2.2.1 ?_, fun h' => Mmu.writeByte_wf (ih.2.2.2 h') hw⟩
    rw [h3, Bool.and_eq_true] at h'
    exact h'.1

/-- Writes leave every address mapped. -/
theorem Mmu.Writes.mapped {m m' : Mmu} (h : Mmu.Writes m m') (hm : m.mapped) : m'.mapped :=
  ⟨by rw [h.latch.2.1]; exact hm.1, fun x => by rw [h.latch.1]; exact hm.2 (h.latch.2.2.1 x)⟩

/-- A hole after some writes was a hole before them. -/
theorem Fault.OfHole.before {e : Fault} {m m' : Mmu} (h : e.OfHole m') (hw : Mmu.Writes m m') : e.OfHole m := by
  obtain ⟨a, h1, h2, h3⟩ := h
  exact ⟨a, h1, h2, fun hm => h3 (hw.mapped hm)⟩

/-- The first of two computations succeeded, and the second ran on its answer. -/
theorem bind_ok {α β : Type} {x : Except Fault α} {f : α → Except Fault β} {b : β} (h : x.bind f = .ok b) :
    ∃ a, x = .ok a ∧ f a = .ok b := by
  cases x with
  | error e => cases h
  | ok a => exact ⟨a, rfl, h⟩

theorem map_ok {α β : Type} {x : Except Fault α} {f : α → β} {b : β} (h : x.map f = .ok b) :
    ∃ a, x = .ok a ∧ f a = b := by
  cases x with
  | error e => cases h
  | ok a => cases h; exact ⟨a, rfl, rfl⟩

/-- The first of two computations faulted, or it succeeded and the second faulted on its answer. -/
theorem bind_error {α β : Type} {x : Except Fault α} {f : α → Except Fault β} {e : Fault} (h : x.bind f = .error e) :
    x = .error e ∨ ∃ a, x = .ok a ∧ f a = .error e := by
  cases x with
  | error e' => cases h; exact .inl rfl
  | ok a => exact .inr ⟨a, rfl, h⟩

theorem map_error {α β : Type} {x : Except Fault α} {f : α → β} {e : Fault} (h : x.map f = .error e) : x = .error e := by
  cases x with
  | error e' => cases h; rfl
  | ok a => cases h

theorem State.store_hole {s : State} {a : Word} {v : Byte} {e : Fault} (h : s.store a v = .error e) : e.OfHole s.mmu :=
  Mmu.writeByte_hole (map_error h)

theorem Mmu.writeWord_hole {m : Mmu} {a v : Word} {e : Fault} (h : m.writeWord a v = .error e) : e.OfHole m := by
  obtain h | ⟨m', h, h'⟩ := bind_error h
  · exact Mmu.writeByte_hole h
  · exact (Mmu.writeByte_hole h').before (.one h)

theorem State.push16_hole {s : State} {v : Word} {e : Fault} (h : s.push16 v = .error e) : e.OfHole s.mmu :=
  Mmu.writeWord_hole (map_error h)

theorem State.pop16_hole {s : State} {e : Fault} (h : s.pop16 = .error e) : e.OfHole s.mmu := by
  obtain h | ⟨_, -, h⟩ := bind_error (map_error h)
  · exact Mmu.readByte_hole h
  · exact Mmu.readByte_hole (map_error h)

theorem State.dispatch_hole {s : State} {e : Fault} (h : s.dispatch = .error e) : e.OfHole s.mmu := by
  unfold State.dispatch at h
  obtain h | ⟨t, h, h'⟩ := bind_error h
  · exact State.store_hole (s := s.setIme false false) h
  · obtain ⟨m, hm, rfl⟩ := State.store_ok h
    exact (State.push16_hole (map_error h')).before (.one hm)

theorem State.readOpnd_hole {s : State} {o : Opnd8} {e : Fault} (h : s.readOpnd o = .error e) : e.OfHole s.mmu := by
  cases o with
  | reg r => cases h
  | mHL => exact Mmu.readByte_hole h

theorem State.writeOpnd_hole {s : State} {o : Opnd8} {v : Byte} {e : Fault} (h : s.writeOpnd o v = .error e) :
    e.OfHole s.mmu := by
  cases o with
  | reg r => cases h
  | mHL => exact State.store_hole h

end Sys2Proof.Machine
end

