-- ==== Sys2Proof/Laws/Exec.lean ====
section
/-! SUPPORT. What one instruction can do, said once: it is undone by a fault (R500), or it latches no fault, advances the clock,
changes the MMU by writes of bytes only and keeps F's low nibble (`exec_next`). -/

namespace Sys2Proof.Machine

/-- What a body that runs can do to the parts of the state that whole-machine rules speak about. -/
structure BodyEffect (u t : State) : Prop where
  fault : t.fault = u.fault
  clock : t.clock = u.clock
  mmu : Mmu.Writes u.mmu t.mmu
  low : u.regs.f &&& 0x0F = 0 → t.regs.f &&& 0x0F = 0

theorem BodyEffect.refl (s : State) : BodyEffect s s := ⟨rfl, rfl, .refl _, id⟩

theorem BodyEffect.trans {s t u : State} (h : BodyEffect s t) (h' : BodyEffect t u) : BodyEffect s u :=
  ⟨h'.fault.trans h.fault, h'.clock.trans h.clock, h.mmu.trans h'.mmu, fun x => h'.low (h.low x)⟩

theorem BodyEffect.jump (s : State) (a : Word) : BodyEffect s (s.jump a) := ⟨rfl, rfl, .refl _, id⟩

theorem BodyEffect.setSP (s : State) (a : Word) : BodyEffect s (s.setSP a) := ⟨rfl, rfl, .refl _, id⟩

theorem BodyEffect.setRunState (s : State) (r : RunState) : BodyEffect s (s.setRunState r) := ⟨rfl, rfl, .refl _, id⟩

theorem BodyEffect.setIme (s : State) (i e : Bool) : BodyEffect s (s.setIme i e) := ⟨rfl, rfl, .refl _, id⟩

theorem BodyEffect.set8 (s : State) (x : Reg8) (v : Byte) : BodyEffect s (s.set8 x v) :=
  ⟨rfl, rfl, .refl _, fun h => by simpa using h⟩

theorem BodyEffect.set16 (s : State) (p : Pair) (v : Word) : BodyEffect s (s.set16 p v) :=
  ⟨rfl, rfl, .refl _, fun h => by simpa using h⟩

theorem BodyEffect.setFlags (s : State) (x : Flags) : BodyEffect s (s.setFlags x) :=
  ⟨rfl, rfl, .refl _, fun _ => x.pack_low⟩

theorem BodyEffect.setStack (s : State) (p : StackPair) (v : Word) : BodyEffect s (s.setStack p v) := by
  refine ⟨rfl, rfl, .refl _, fun h => ?_⟩
  cases p <;> try exact h
  show lo8 v &&& 0xF0 &&& 0x0F = 0
  rw [BitVec.and_assoc, show (0xF0 : Byte) &&& 0x0F = 0 from rfl]
  exact BitVec.and_zero

theorem BodyEffect.store {s t : State} {a : Word} {v : Byte} (h : s.store a v = .ok t) : BodyEffect s t := by
  obtain ⟨m, hw, rfl⟩ := State.store_ok h
  exact ⟨rfl, rfl, .one hw, id⟩

theorem BodyEffect.storeWord {s t : State} {a v : Word} (h : s.storeWord a v = .ok t) : BodyEffect s t := by
  obtain ⟨m, hw, rfl⟩ := State.storeWord_ok h
  exact ⟨rfl, rfl, .word hw, id⟩

theorem BodyEffect.push16 {s t : State} {v : Word} (h : s.push16 v = .ok t) : BodyEffect s t :=
  (BodyEffect.setSP s _).trans (BodyEffect.storeWord h)

theorem BodyEffect.pop16 {s t : State} {v : Word} (h : s.pop16 = .ok (v, t)) : BodyEffect s t := by
  obtain ⟨-, rfl⟩ := State.pop16_ok h
  exact .setSP s _

theorem BodyEffect.writeOpnd {s t : State} {o : Opnd8} {v : Byte} (h : s.writeOpnd o v = .ok t) : BodyEffect s t := by
  cases o with
  | reg r => cases h; exact .set8 s r v
  | mHL => exact .store h

/-- What is true of every body: it keeps to `BodyEffect` where it runs, and its faults are those of accesses in a hole. -/
structure Tame (body : State → Except Fault State) : Prop where
  runs : ∀ u t, body u = .ok t → BodyEffect u t
  faults : ∀ u e, body u = .error e → e.OfHole u.mmu

theorem Tame.unfailing {f : State → State} (h : ∀ u, BodyEffect u (f u)) : Tame (unfailing f) :=
  ⟨fun u t e => by cases e; exact h u, fun u e he => by cases he⟩

/-- A body followed by a change of the state that cannot fault. -/
theorem Tame.map {body : State → Except Fault State} {f : State → State} (hb : Tame body) (h : ∀ u, BodyEffect u (f u)) :
    Tame fun s => (body s).map f := by
  refine ⟨fun u t e => ?_, fun u e he => hb.faults u e (map_error he)⟩
  obtain ⟨v, hv, rfl⟩ := map_ok e
  exact (hb.runs u v hv).trans (h v)

theorem Tame.store (addr : State → Word) (v : State → Byte) : Tame fun s => s.store (addr s) (v s) :=
  ⟨fun _ _ h => .store h, fun _ _ h => State.store_hole h⟩

theorem Tame.storeWord (addr v : State → Word) : Tame fun s => s.storeWord (addr s) (v s) :=
  ⟨fun _ _ h => .storeWord h, fun _ _ h => Mmu.writeWord_hole (map_error h)⟩

theorem Tame.push16 (v : State → Word) : Tame fun s => s.push16 (v s) :=
  ⟨fun _ _ h => .push16 h, fun _ _ h => State.push16_hole h⟩

/-- A pop followed by a change of the state that cannot fault. -/
theorem Tame.pop16 {f : Word × State → State} (h : ∀ v u, BodyEffect u (f (v, u))) : Tame fun s => s.pop16.map f := by
  refine ⟨fun u t e => ?_, fun u e he => State.pop16_hole (map_error he)⟩
  obtain ⟨⟨v, w⟩, hv, rfl⟩ := map_ok e
  exact (BodyEffect.pop16 hv).trans (h v w)

/-- The read of an operand, and a body that runs on what it reads. -/
theorem Tame.readOpnd {o : Opnd8} {f : State → Byte → Except Fault State} (h : ∀ v, Tame fun s => f s v) :
    Tame fun s => (s.readOpnd o).bind (f s) := by
  refine ⟨fun u t e => ?_, fun u e he => ?_⟩
  · obtain ⟨v, -, hv⟩ := bind_ok e
    exact (h v).runs u t hv
  · obtain he | ⟨v, -, he⟩ := bind_error he
    · exact State.readOpnd_hole he
    · exact (h v).faults u e he

theorem Tame.writeOpnd (o : Opnd8) {f : State → State} (v : State → Byte) (hm : ∀ s, (f s).mmu = s.mmu)
    (h : ∀ u, BodyEffect u (f u)) : Tame fun s => (f s).writeOpnd o (v s) :=
  ⟨fun u _ e => (h u).trans (.writeOpnd e), fun u _ he => hm u ▸ State.writeOpnd_hole he⟩

theorem Tame.loadInto (r : Reg8) (addr : State → Word) : Tame (loadInto r addr) := by
  refine ⟨fun u t h => ?_, fun u e h => Mmu.readByte_hole (map_error h)⟩
  obtain ⟨v, -, rfl⟩ := map_ok h
  exact .set8 u r v

theorem Tame.storeFrom (r : Reg8) (addr : State → Word) : Tame (storeFrom r addr) := .store _ _

theorem Tame.storeStep (d : Word) : Tame (storeStep d) := (Tame.storeFrom _ _).map fun u => .set16 u _ _

theorem Tame.loadStep (d : Word) : Tame (loadStep d) := (Tame.loadInto _ _).map fun u => .set16 u _ _

theorem Tame.callBody (a : Word) : Tame (callBody a) := (Tame.push16 _).map fun u => .jump u a

theorem Tame.retBody : Tame retBody := .pop16 fun v u => .jump u v

theorem Tame.returnFromInterrupt : Tame State.returnFromInterrupt := .pop16 fun v u => (BodyEffect.jump u v).trans (.setIme _ _ _)

theorem BodyEffect.alu (op : AluOp) (u : State) (v : Byte) : BodyEffect u (u.alu op v) := by
  unfold State.alu
  simp only
  split
  · exact .setFlags u _
  · exact (BodyEffect.set8 u _ _).trans (.setFlags _ _)

/-- What an instruction that is not undone can do. -/
structure InstrEffect (s t : State) : Prop where
  fault : t.fault = s.fault
  clock : s.clock < t.clock ∧ t.clock ≤ s.clock + 6
  mmu : Mmu.Writes s.mmu t.mmu
  low : s.regs.f &&& 0x0F = 0 → t.regs.f &&& 0x0F = 0

/-- The two ends of an instruction: undone by a fault after `k` opcode bytes, which is that of an access in a hole or that of an
illegal byte, or run. -/
def InstrEnd (f : Form) (s t : State) : Prop :=
  (∃ k e, (k = 1 ∨ k = 2) ∧ t = s.takeFault k e ∧
    (e.OfHole s.mmu ∨ ∃ op, f = .illegal op ∧ e = .unimplementedOpcode op.byte none)) ∨ InstrEffect s t

theorem execute_next {k len n : Nat} {body : State → Except Fault State} (hk : k = 1 ∨ k = 2) (hn : 0 < n ∧ n ≤ 6)
    (hb : Tame body) (f : Form) (s : State) : ∃ t, execute k len n body s = .next t ∧ InstrEnd f s t := by
  unfold execute
  cases h : body (s.advance len) with
  | error e => exact ⟨_, rfl, .inl ⟨k, e, hk, rfl, .inl (hb.faults (s.advance len) e h)⟩⟩
  | ok t =>
    have he := hb.runs _ _ h
    refine ⟨_, rfl, .inr ⟨he.fault, ?_, he.mmu, fun x => he.low x⟩⟩
    have := he.clock
    simp only [State.tick_clock, State.advance_clock] at *
    omega

theorem primary_next {len n : Nat} {body : State → Except Fault State} (hn : 0 < n ∧ n ≤ 6) (hb : Tame body) (f : Form)
    (s : State) : ∃ t, primary len n body s = .next t ∧ InstrEnd f s t := execute_next (.inl rfl) hn hb f s

theorem prefixed_next {n : Nat} {body : State → Except Fault State} (hn : 0 < n ∧ n ≤ 6) (hb : Tame body) (f : Form)
    (s : State) : ∃ t, prefixed n body s = .next t ∧ InstrEnd f s t := execute_next (.inr rfl) hn hb f s

theorem conditional_next {len n m : Nat} {cc : Cond} {body : State → Except Fault State} (hn : 0 < n ∧ n ≤ 6)
    (hm : 0 < m ∧ m ≤ 6) (hb : Tame body) (f : Form) (s : State) :
    ∃ t, conditional len n m cc body s = .next t ∧ InstrEnd f s t := by
  unfold conditional
  split
  · exact primary_next hn hb f s
  · exact primary_next hm (.unfailing .refl) f s

theorem operandCycles_bounds {o : Opnd8} {r m : Nat} (hr : 0 < r ∧ r ≤ 6) (hm : 0 < m ∧ m ≤ 6) :
    0 < operandCycles o r m ∧ operandCycles o r m ≤ 6 := by
  cases o <;> assumption

theorem Tame.inc (o : Opnd8) (f : Byte → Bool → Result8) :
    Tame fun s => (s.readOpnd o).bind fun v => (s.setFlags (f v s.flags.c).flags).writeOpnd o (f v s.flags.c).value :=
  .readOpnd fun _ => .writeOpnd o _ (fun _ => rfl) fun u => .setFlags u _

theorem Tame.readWrite (o : Opnd8) (f : Byte → Byte) :
    Tame fun s => (s.readOpnd o).bind fun v => s.writeOpnd o (f v) :=
  .readOpnd fun _ => .writeOpnd (f := id) o _ (fun _ => rfl) .refl

theorem shiftOpnd_next (op : ShiftOp) (o : Opnd8) (f : Form) (s : State) :
    ∃ t, shiftOpnd op o s = .next t ∧ InstrEnd f s t := by
  refine prefixed_next (operandCycles_bounds (by omega) (by omega)) (.readOpnd fun v => ?_) f s
  refine ⟨fun u t h => ?_, fun u e h => State.writeOpnd_hole (map_error h)⟩
  obtain ⟨w, hw, rfl⟩ := map_ok h
  exact (BodyEffect.writeOpnd hw).trans (.setFlags w _)

theorem bitOpnd_next (b : Idx8) (o : Opnd8) (f : Form) (s : State) : ∃ t, bitOpnd b o s = .next t ∧ InstrEnd f s t := by
  refine prefixed_next (operandCycles_bounds (by omega) (by omega)) ⟨fun u t h => ?_, fun u e h => ?_⟩ f s
  · obtain ⟨v, -, rfl⟩ := map_ok h
    exact .setFlags u _
  · exact State.readOpnd_hole (map_error h)

theorem resOpnd_next (b : Idx8) (o : Opnd8) (f : Form) (s : State) : ∃ t, resOpnd b o s = .next t ∧ InstrEnd f s t :=
  prefixed_next (operandCycles_bounds (by omega) (by omega)) (Tame.readWrite o _) f s

theorem setOpnd_next (b : Idx8) (o : Opnd8) (f : Form) (s : State) : ∃ t, setOpnd b o s = .next t ∧ InstrEnd f s t :=
  prefixed_next (operandCycles_bounds (by omega) (by omega)) (Tame.readWrite o _) f s

/-- Every form answers a next state, and ends one of the two ways. -/
theorem execForm_next (f : Form) (s : State) : ∃ t, execForm f s = .next t ∧ InstrEnd f s t := by
  cases f with
  | nop => exact primary_next (by omega) (.unfailing .refl) _ s
  | halt => exact primary_next (by omega) (.unfailing fun u => .setRunState u _) _ s
  | di => exact primary_next (by omega) (.unfailing fun u => .setIme u _ _) _ s
  | ei => exact primary_next (by omega) (.unfailing fun u => .setIme u _ _) _ s
  | stop _ => exact primary_next (by omega) (.unfailing fun u => .setRunState u _) _ s
  | ldRR dst src => exact primary_next (by omega) (.unfailing fun u => .set8 u _ _) _ s
  | ldRD8 r x => exact primary_next (by omega) (.unfailing fun u => .set8 u _ _) _ s
  | ldRM r => exact primary_next (by omega) (.loadInto _ _) _ s
  | ldMR r => exact primary_next (by omega) (.storeFrom _ _) _ s
  | ldMD8 x => exact primary_next (by omega) (.store _ _) _ s
  | ldAPtr p => exact primary_next (by omega) (.loadInto _ _) _ s
  | ldPtrA p => exact primary_next (by omega) (.storeFrom _ _) _ s
  | ldMIncA => exact primary_next (by omega) (.storeStep _) _ s
  | ldAMInc => exact primary_next (by omega) (.loadStep _) _ s
  | ldMDecA => exact primary_next (by omega) (.storeStep _) _ s
  | ldAMDec => exact primary_next (by omega) (.loadStep _) _ s
  | ldhMA x => exact primary_next (by omega) (.storeFrom _ _) _ s
  | ldhAM x => exact primary_next (by omega) (.loadInto _ _) _ s
  | ldMCA => exact primary_next (by omega) (.storeFrom _ _) _ s
  | ldAMC => exact primary_next (by omega) (.loadInto _ _) _ s
  | ldM16A x => exact primary_next (by omega) (.storeFrom _ _) _ s
  | ldAM16 x => exact primary_next (by omega) (.loadInto _ _) _ s
  | ldPairD16 p x => exact primary_next (by omega) (.unfailing fun u => .set16 u _ _) _ s
  | ldM16SP x => exact primary_next (by omega) (.storeWord _ _) _ s
  | ldHLSP x => exact primary_next (by omega) (.unfailing fun u => (BodyEffect.set16 u _ _).trans (.setFlags _ _)) _ s
  | ldSPHL => exact primary_next (by omega) (.unfailing fun u => .setSP u _) _ s
  | alu op o =>
    have hb : Tame fun u => (u.readOpnd o).map (u.alu op) := by
      refine ⟨fun u t h => ?_, fun u e h => State.readOpnd_hole (map_error h)⟩
      obtain ⟨v, -, rfl⟩ := map_ok h
      exact .alu op u v
    exact primary_next (operandCycles_bounds (by omega) (by omega)) hb _ s
  | aluD8 op x => exact primary_next (by omega) (.unfailing fun u => .alu op u x) _ s
  | inc8 o => exact primary_next (operandCycles_bounds (by omega) (by omega)) (Tame.inc o Machine.inc8) _ s
  | dec8 o => exact primary_next (operandCycles_bounds (by omega) (by omega)) (Tame.inc o Machine.dec8) _ s
  | daa => exact primary_next (by omega) (.unfailing fun u => (BodyEffect.set8 u _ _).trans (.setFlags _ _)) _ s
  | cpl => exact primary_next (by omega) (.unfailing fun u => (BodyEffect.set8 u _ _).trans (.setFlags _ _)) _ s
  | scf => exact primary_next (by omega) (.unfailing fun u => .setFlags u _) _ s
  | ccf => exact primary_next (by omega) (.unfailing fun u => .setFlags u _) _ s
  | rlca => exact primary_next (by omega) (.unfailing fun u => (BodyEffect.set8 u _ _).trans (.setFlags _ _)) _ s
  | rrca => exact primary_next (by omega) (.unfailing fun u => (BodyEffect.set8 u _ _).trans (.setFlags _ _)) _ s
  | rla => exact primary_next (by omega) (.unfailing fun u => (BodyEffect.set8 u _ _).trans (.setFlags _ _)) _ s
  | rra => exact primary_next (by omega) (.unfailing fun u => (BodyEffect.set8 u _ _).trans (.setFlags _ _)) _ s
  | inc16 p => exact primary_next (by omega) (.unfailing fun u => .set16 u _ _) _ s
  | dec16 p => exact primary_next (by omega) (.unfailing fun u => .set16 u _ _) _ s
  | addHL p => exact primary_next (by omega) (.unfailing fun u => (BodyEffect.set16 u _ _).trans (.setFlags _ _)) _ s
  | addSP x => exact primary_next (by omega) (.unfailing fun u => (BodyEffect.setSP u _).trans (.setFlags _ _)) _ s
  | jp x => exact primary_next (by omega) (.unfailing fun u => .jump u _) _ s
  | jpCC cc x => exact conditional_next (by omega) (by omega) (.unfailing fun u => .jump u _) _ s
  | jpHL => exact primary_next (by omega) (.unfailing fun u => .jump u _) _ s
  | jr x => exact primary_next (by omega) (.unfailing fun u => .jump u _) _ s
  | jrCC cc x => exact conditional_next (by omega) (by omega) (.unfailing fun u => .jump u _) _ s
  | call x => exact primary_next (by omega) (.callBody x) _ s
  | callCC cc x => exact conditional_next (by omega) (by omega) (.callBody x) _ s
  | ret => exact primary_next (by omega) .retBody _ s
  | retCC cc => exact conditional_next (by omega) (by omega) .retBody _ s
  | reti => exact primary_next (by omega) .returnFromInterrupt _ s
  | rst t => exact primary_next (by omega) (.callBody _) _ s
  | push p => exact primary_next (n := 4) (by omega) (.push16 fun u => u.regs.getStack p) _ s
  | pop p => exact primary_next (n := 3) (by omega) (.pop16 fun v u => .setStack u p v) _ s
  | shift op o => exact shiftOpnd_next op o _ s
  | bit b o => exact bitOpnd_next b o _ s
  | res b o => exact resOpnd_next b o _ s
  | set b o => exact setOpnd_next b o _ s
  | cbPrefix x =>
    simp only [execForm, cbExecute]
    generalize fieldX x = n
    match n with
    | 0 => exact shiftOpnd_next _ _ _ s
    | 1 => exact bitOpnd_next _ _ _ s
    | 2 => exact resOpnd_next _ _ _ s
    | _ + 3 => exact setOpnd_next _ _ _ s
  | illegal op => exact ⟨_, rfl, .inl ⟨1, _, .inl rfl, rfl, .inr ⟨op, rfl, rfl⟩⟩⟩

/-- Every instruction answers a next state: undone by a fault, or run (R500, R131). -/
theorem exec_next (i : Instr) (s : State) : ∃ t, exec i s = .next t ∧ InstrEnd i.form s t := by
  rw [exec_eq_execForm]; exact execForm_next _ s

end Sys2Proof.Machine
end

