-- ==== Sys2Proof/Laws/Frame.lean ====
section
/-! SUPPORT. Frames of the memory operations (what a store, a push and a pop change, and where each faults), and the readings of
words, flags and conditions on numbers that the claims use. -/

namespace Sys2Proof.Machine

/-! ### The address map and the frame of a store -/

/-- R72: the address map, region by region. -/
theorem slotOf_cases (a : Word) :
    (a.toNat ≤ 0x7FFF ∧ slotOf a = .rom a.toNat) ∨
    (0x8000 ≤ a.toNat ∧ a.toNat ≤ 0x9FFF ∧ slotOf a = .vram (a.toNat % 0x2000)) ∨
    (0xA000 ≤ a.toNat ∧ a.toNat ≤ 0xBFFF ∧ slotOf a = .eram (a.toNat % 0x2000)) ∨
    (0xC000 ≤ a.toNat ∧ a.toNat ≤ 0xFDFF ∧ slotOf a = .wram (a.toNat % 0x2000)) ∨
    (0xFE00 ≤ a.toNat ∧ a.toNat ≤ 0xFE9F ∧ slotOf a = .oam (a.toNat - 0xFE00)) ∨
    (0xFEA0 ≤ a.toNat ∧ a.toNat ≤ 0xFEFF ∧ slotOf a = .unused) ∨
    (0xFF00 ≤ a.toNat ∧ a.toNat ≤ 0xFF7F ∧ slotOf a = .io (a.toNat % 0x80)) ∨
    (0xFF80 ≤ a.toNat ∧ a.toNat ≤ 0xFFFE ∧ slotOf a = .zp (a.toNat % 0x80)) ∨
    (a.toNat = 0xFFFF ∧ slotOf a = .ie) := by
  have := a.isLt
  simp only [slotOf]
  split
  · left; exact ⟨by omega, rfl⟩
  split
  · right; left; exact ⟨by omega, by omega, rfl⟩
  split
  · right; right; left; exact ⟨by omega, by omega, rfl⟩
  split
  · right; right; right; left; exact ⟨by omega, by omega, rfl⟩
  split
  · right; right; right; left; exact ⟨by omega, by omega, rfl⟩
  split
  · right; right; right; right; left; exact ⟨by omega, by omega, rfl⟩
  split
  · right; right; right; right; right; left; exact ⟨by omega, by omega, rfl⟩
  split
  · right; right; right; right; right; right; left; exact ⟨by omega, by omega, rfl⟩
  split
  · right; right; right; right; right; right; right; left; exact ⟨by omega, by omega, rfl⟩
  · right; right; right; right; right; right; right; right; exact ⟨by omega, rfl⟩

/-- Two addresses with one slot name the same byte, or both lie in the unused region. -/
theorem slotOf_eq {a b : Word} (h : slotOf a = slotOf b) : sameByte a b = true ∨ slotOf b = .unused := by
  have same : a.toNat = b.toNat → sameByte a b = true := fun e => by
    simp [sameByte, BitVec.eq_of_toNat_eq e]
  obtain ⟨ha, hs⟩ | ⟨ha, ha', hs⟩ | ⟨ha, ha', hs⟩ | ⟨ha, ha', hs⟩ | ⟨ha, ha', hs⟩ | ⟨ha, ha', hs⟩ | ⟨ha, ha', hs⟩ |
    ⟨ha, ha', hs⟩ | ⟨ha, hs⟩ := slotOf_cases a <;>
  obtain ⟨hb, ht⟩ | ⟨hb, hb', ht⟩ | ⟨hb, hb', ht⟩ | ⟨hb, hb', ht⟩ | ⟨hb, hb', ht⟩ | ⟨hb, hb', ht⟩ | ⟨hb, hb', ht⟩ |
    ⟨hb, hb', ht⟩ | ⟨hb, ht⟩ := slotOf_cases b <;>
  rw [hs, ht] at h <;>
  first
  | (exact .inr ht)
  | (left; apply same; omega)
  | (simp only [reduceCtorEq] at h)
  | (left
     apply same
     simp only [Slot.rom.injEq, Slot.vram.injEq, Slot.eram.injEq, Slot.oam.injEq, Slot.io.injEq, Slot.zp.injEq] at h
     omega)
  | (left
     have e : a.toNat % 0x2000 = b.toNat % 0x2000 := by simpa using h
     simp [sameByte, ha, ha', hb, hb', e])

/-- A write moves the overlay only by clearing inBIOS at 0xFF50 (R84). -/
theorem Mmu.overlaid_writeByte {m m' : Mmu} {a b : Word} {v} (h : m.writeByte a v = .ok m')
    (hb : a = 0xFF50 → m.inBios = true → 0x0100 ≤ b.toNat) : m'.overlaid b = m.overlaid b := by
  obtain ⟨-, -, hi⟩ := Mmu.writeByte_latch h
  simp only [Mmu.overlaid, hi]
  by_cases e : a = bootAddr
  · cases hm : m.inBios
    · simp
    · have := hb e hm
      simp [e]; omega
  · simp [e]

/-- R83: the unused region reads as 0. -/
theorem Mmu.readByte_unused {m : Mmu} {b : Word} (h : slotOf b = .unused) : m.readByte b = .ok 0 := by
  have hb : 0x8000 ≤ b.toNat := by
    by_contra hn
    simp only [slotOf] at h
    rw [if_pos (by omega)] at h; cases h
  unfold Mmu.readByte
  have : m.overlaid b = false := by simp [Mmu.overlaid]; intro; omega
  rw [this, h]; rfl

/-- R93: the frame of one write of a byte. -/
theorem Mmu.sameOutside_one {m m' : Mmu} {a : Word} {v} (h : m.writeByte a v = .ok m') : m.sameOutside m' [a] := by
  intro b hs hb
  have hs' := hs a (by simp)
  by_cases e : slotOf a = slotOf b
  · obtain h' | h' := slotOf_eq e
    · rw [h'] at hs'; cases hs'
    · rw [Mmu.readByte_unused h', Mmu.readByte_unused h']
  · exact Mmu.readByte_writeByte_other h (fun e' => e e'.symm) (Mmu.overlaid_writeByte h (fun ea hi => hb (by simp [ea]) hi))

/-- A write never sets inBIOS. -/
theorem Mmu.inBios_writeByte {m m' : Mmu} {a : Word} {v} (h : m.writeByte a v = .ok m') :
    m'.inBios = true → m.inBios = true := by
  obtain ⟨-, -, hi⟩ := Mmu.writeByte_latch h
  rw [hi]; simp; intro h _; exact h

/-- The frame of two writes, one after the other. -/
theorem Mmu.sameOutside_two {m m1 m' : Mmu} {a b : Word} {v w} (h : m.writeByte a v = .ok m1) (h' : m1.writeByte b w = .ok m') :
    m.sameOutside m' [a, b] := by
  intro c hs hb
  rw [Mmu.sameOutside_one h' c (fun x hx => hs x (by simp at hx; simp [hx])), Mmu.sameOutside_one h c (fun x hx => hs x (by simp at hx; simp [hx]))]
  · intro hx hi; exact hb (by simp at hx; simp [hx]) hi
  · intro hx hi; exact hb (by simp at hx; simp [hx]) (Mmu.inBios_writeByte h hi)

/-- A write to a writable address is accepted. -/
theorem Mmu.writeByte_writable {m : Mmu} {a : Word} (h : m.writable a) (v : Byte) : ∃ m', m.writeByte a v = .ok m' := by
  cases hw : m.writeByte a v with
  | ok m' => exact ⟨m', rfl⟩
  | error e =>
    obtain ⟨-, h1, h2⟩ := Mmu.writeByte_error hw
    have := h h1; rw [h2] at this; cases this

/-- R87: a write to an address that is not writable faults. -/
theorem Mmu.writeByte_unwritable {m : Mmu} {a : Word} (h : ¬ m.writable a) (v : Byte) : m.writeByte a v = .error (.unmappedRegion a) := by
  unfold Mmu.writable at h
  push Not at h
  have hr : m.rom = none := by have := h.2; cases hm : m.rom <;> simp_all
  have : slotOf a = .rom a.toNat := by simp [slotOf, h.1]
  simp only [Mmu.writeByte, this, hr]

/-- A write changes no address's being writable. -/
theorem Mmu.writable_writeByte {m m' : Mmu} {a : Word} {v} (h : m.writeByte a v = .ok m') (b : Word) : m'.writable b ↔ m.writable b := by
  obtain ⟨-, hr, -⟩ := Mmu.writeByte_latch h
  simp [Mmu.writable, hr]

/-- At a writable address, a byte is stored and the frame holds. -/
theorem Mmu.storesByte {m : Mmu} {a : Word} (h : m.writable a) (v : Byte) : ∃ m', m.StoresByte a v m' := by
  obtain ⟨m', h'⟩ := Mmu.writeByte_writable h v
  exact ⟨m', h', Mmu.sameOutside_one h'⟩

/-- The state's store, from the MMU's. -/
theorem State.store_storesByte {s : State} {a v m} (h : s.mmu.StoresByte a v m) : s.store a v = .ok (s.withMmu m) := by
  simp [State.store, h.1, Except.map]

/-- The low byte, on numbers. -/
theorem lo8_eq (v : Word) : lo8 v = BitVec.ofNat 8 v.toNat := by
  simp [lo8, BitVec.ofNat_toNat]

/-- The high byte, on numbers. -/
theorem hi8_eq (v : Word) : hi8 v = BitVec.ofNat 8 (v.toNat / 0x100) := by
  apply BitVec.eq_of_toNat_eq; simp [hi8, BitVec.toNat_ushiftRight, Nat.shiftRight_eq_div_pow]

/-- At two writable addresses, a word is stored and the frame holds. -/
theorem Mmu.storesWord {m : Mmu} {a : Word} (h : m.writable a) (h' : m.writable (a + 1)) (v : Word) : ∃ m', m.StoresWord a v m' := by
  obtain ⟨m1, h1⟩ := Mmu.writeByte_writable h (BitVec.ofNat 8 v.toNat)
  obtain ⟨m2, h2⟩ := Mmu.writeByte_writable ((Mmu.writable_writeByte h1 (a+1)).2 h') (BitVec.ofNat 8 (v.toNat / 0x100))
  exact ⟨m2, ⟨m1, h1, h2⟩, Mmu.sameOutside_two h1 h2⟩

/-- R89: `writeWord` stores the word. -/
theorem Mmu.writeWord_storesWord {m m' : Mmu} {a v} (h : m.StoresWord a v m') : m.writeWord a v = .ok m' := by
  obtain ⟨⟨m1, h1, h2⟩, -⟩ := h
  simp only [Mmu.writeWord, lo8_eq, h1, Except.bind, hi8_eq, h2]

/-- R89: `writeWord` faults at the first of its two addresses that is not writable. -/
theorem Mmu.writeWord_unwritable {m : Mmu} {a v b : Word} (h : (¬ m.writable a ∧ b = a) ∨ (m.writable a ∧ ¬ m.writable (a + 1) ∧ b = a + 1)) :
    m.writeWord a v = .error (.unmappedRegion b) := by
  obtain ⟨h, rfl⟩ | ⟨h, h', rfl⟩ := h
  · simp only [Mmu.writeWord, Mmu.writeByte_unwritable h, Except.bind]
  · obtain ⟨m1, h1⟩ := Mmu.writeByte_writable h (lo8 v)
    simp only [Mmu.writeWord, h1, Except.bind]
    exact Mmu.writeByte_unwritable (fun x => h' ((Mmu.writable_writeByte h1 _).1 x)) _

/-- R12: a push that is stored. -/
theorem State.push16_storesWord {s : State} {v m} (h : s.mmu.StoresWord (s.regs.sp - 2) v m) :
    s.push16 v = .ok ((s.setSP (s.regs.sp - 2)).withMmu m) := by
  simp only [State.push16, State.storeWord, State.setSP_mmu, Mmu.writeWord_storesWord h, Except.map]

/-- R12: a push that faults, and the address it faults at. -/
theorem State.push16_unwritable {s : State} {v b} (h : (¬ s.mmu.writable (s.regs.sp - 2) ∧ b = (s.regs.sp - 2)) ∨ (s.mmu.writable (s.regs.sp - 2) ∧ ¬ s.mmu.writable (s.regs.sp - 2 + 1) ∧ b = s.regs.sp - 2 + 1)) :
    s.push16 v = .error (.unmappedRegion b) := by
  simp only [State.push16, State.storeWord, State.setSP_mmu, Mmu.writeWord_unwritable h, Except.map]

/-- A read of two readable bytes (R88). -/
theorem Mmu.readWord_ok {m : Mmu} {a : Word} {lo hi : Byte} (h : m.readByte a = .ok lo) (h' : m.readByte (a + 1) = .ok hi) :
    m.readWord a = .ok (hi ++ lo) := by
  simp only [Mmu.readWord, h, h', Except.bind, Except.map]

/-- A read of two bytes faults with the first fault (R88). -/
theorem Mmu.readWord_error {m : Mmu} {a : Word} {lo : Byte} {e : Fault}
    (h : m.readByte a = .error e ∨ (m.readByte a = .ok lo ∧ m.readByte (a + 1) = .error e)) : m.readWord a = .error e := by
  obtain h | ⟨h, h'⟩ := h
  · simp only [Mmu.readWord, h, Except.bind]
  · simp only [Mmu.readWord, h, h', Except.bind, Except.map]

/-- R12: a pop of two readable bytes. -/
theorem State.pop16_bytes {s : State} {lo hi : Byte} (h : s.load s.regs.sp = .ok lo) (h' : s.load (s.regs.sp + 1) = .ok hi) :
    s.pop16 = .ok (hi ++ lo, s.setSP (s.regs.sp + 2)) := by
  simp only [State.pop16, Mmu.readWord_ok h h', Except.map]

/-- R12: a pop that faults. -/
theorem State.pop16_error {s : State} {lo : Byte} {e : Fault}
    (h : s.load s.regs.sp = .error e ∨ (s.load s.regs.sp = .ok lo ∧ s.load (s.regs.sp + 1) = .error e)) :
    s.pop16 = .error e := by
  simp only [State.pop16, Mmu.readWord_error h, Except.map]

/-! ### Words from bytes -/

/-- R33: a pair, on numbers. -/
theorem append_eq_ofNat (hi lo : Byte) : (hi ++ lo : Word) = BitVec.ofNat 16 (hi.toNat * 0x100 + lo.toNat) := by
  apply BitVec.eq_of_toNat_eq
  rw [BitVec.toNat_append, BitVec.toNat_ofNat]
  have h1 := hi.isLt
  have h2 := lo.isLt
  have h3 : 2 ^ 8 * hi.toNat + lo.toNat = 2 ^ 8 * hi.toNat ||| lo.toNat := Nat.two_pow_add_eq_or_of_lt h2 _
  rw [Nat.shiftLeft_eq, Nat.mul_comm, ← h3]
  omega

/-! ### Flags and conditions, on the byte F -/

/-- R128: a condition reads F as `condHolds` says. -/
theorem State.holds_eq_condHolds (s : State) (cc : Cond) : s.flags.holds cc = condHolds s.regs.f cc := by
  simp only [State.flags, Regs.flags, Flags.holds]
  generalize s.regs.f = f
  cases cc <;> simp only [condHolds] <;> revert f <;> decide

theorem State.flag_c_eq (s : State) : s.flags.c = decide (s.regs.f.toNat / 0x10 % 2 = 1) := by
  simp only [State.flags, Regs.flags]
  generalize s.regs.f = f
  revert f; decide

theorem State.flag_h_eq (s : State) : s.flags.h = decide (s.regs.f.toNat / 0x20 % 2 = 1) := by
  simp only [State.flags, Regs.flags]
  generalize s.regs.f = f
  revert f; decide

theorem State.flag_n_eq (s : State) : s.flags.n = decide (s.regs.f.toNat / 0x40 % 2 = 1) := by
  simp only [State.flags, Regs.flags]
  generalize s.regs.f = f
  revert f; decide

theorem State.flag_z_eq (s : State) : s.flags.z = decide (s.regs.f.toNat / 0x80 % 2 = 1) := by
  simp only [State.flags, Regs.flags]
  generalize s.regs.f = f
  revert f; decide

/-- R280: a conditional transfer whose condition holds. -/
theorem conditional_taken {s : State} {cc : Cond} (h : condHolds s.regs.f cc = true) (len n m : Nat)
    (body : State → Except Fault State) : conditional len n m cc body s = primary len n body s := by
  unfold conditional
  rw [State.holds_eq_condHolds, h]
  rfl

/-- R280: a conditional transfer whose condition does not hold. -/
theorem conditional_notTaken {s : State} {cc : Cond} (h : condHolds s.regs.f cc = false) (len n m : Nat)
    (body : State → Except Fault State) : conditional len n m cc body s = .next (s.passed len m) := by
  unfold conditional
  rw [State.holds_eq_condHolds, h]
  rfl

/-- Encoding by form. -/
theorem encode_instr (f : Form) : encode f.instr = f.bytes := by
  unfold encode
  rw [Form.form_instr]

end Sys2Proof.Machine
end

