-- ==== Sys2Proof/Laws/Step.lean ====
section
/-! SUPPORT. What one step can do, said once (`step_cases`): refuse, idle, be undone by a fault, take an interrupt, or run one
instruction. -/

namespace Sys2Proof.Machine

/-- The state in which an active step works: the HALT wake has set the run state to Running (R507). -/
def State.awake (s : State) : State := s.setRunState .running

theorem State.awake_running {s : State} (h : s.runState = .running) : s.awake = s := by
  obtain ⟨r, m, c, rs, i, e, f⟩ := s
  cases h
  rfl

@[simp] theorem State.awake_pending (s : State) : s.awake.pending = s.pending := rfl

@[simp] theorem State.awake_ime (s : State) : s.awake.ime = s.ime := rfl

@[simp] theorem State.awake_regs (s : State) : s.awake.regs = s.regs := rfl

@[simp] theorem State.awake_mmu (s : State) : s.awake.mmu = s.mmu := rfl

@[simp] theorem State.awake_clock (s : State) : s.awake.clock = s.clock := rfl

@[simp] theorem State.awake_fault (s : State) : s.awake.fault = s.fault := rfl

@[simp] theorem State.awake_eiPending (s : State) : s.awake.eiPending = s.eiPending := rfl

/-- R501: a core whose fault is latched refuses every step. -/
theorem step_faulted {s : State} {e : Fault} (h : s.fault = some e) : step s = .refused (.faulted e) := by
  simp [step, cycle, h]

/-- R325: a Stopped step does nothing. -/
theorem step_stopped {s : State} (hf : s.fault = none) (h : s.runState = .stopped) : step s = .next s := by
  simp [step, cycle, hf, h]

/-- R507: an idle step adds 1 to the clock. -/
theorem step_idle {s : State} (hf : s.fault = none) (h : s.runState = .halted) (hp : s.pending = 0) :
    step s = .next (s.tick 1) := by
  simp [step, cycle, hf, h, hp]

/-- A step that is not refused, Stopped or idle. -/
theorem step_active {s : State} (hf : s.fault = none)
    (h : s.runState = .running ∨ (s.runState = .halted ∧ s.pending ≠ 0)) : step s = activeStep s s.awake := by
  obtain h | ⟨h, hp⟩ := h
  · simp [step, cycle, hf, h, State.awake_running h]
  · simp only [step, cycle, hf, h, if_neg hp, State.awake]

/-- Putting the run state of `s` back on a fault taken in its awakened state is taking the fault in `s` (R500). -/
theorem takeFault_awake (s : State) (k : Nat) (e : Fault) :
    (s.awake.takeFault k e).setRunState s.runState = s.takeFault k e := rfl

/-- R506: what a dispatch that does not fault does. -/
theorem State.dispatch_ok {s t : State} (h : s.dispatch = .ok t) :
    t.fault = s.fault ∧ t.clock = s.clock ∧ t.runState = s.runState ∧ t.ime = false ∧ t.eiPending = false ∧
      t.regs = { s.regs with sp := s.regs.sp - 2, pc := vector (lowestBit s.pending) } ∧ Mmu.Writes s.mmu t.mmu := by
  unfold State.dispatch at h
  obtain ⟨u, hu, hu'⟩ := bind_ok h
  obtain ⟨w, hw, rfl⟩ := map_ok hu'
  obtain ⟨m, hm, rfl⟩ := State.store_ok hu
  obtain ⟨m', hm', rfl⟩ := State.push16_ok hw
  exact ⟨rfl, rfl, rfl, rfl, rfl, rfl, (Mmu.Writes.one hm).trans (.word hm')⟩

/-- The ways a step that is not refused can end. -/
inductive StepEnd (s : State) : State → Prop where
  /-- R325. -/
  | stopped : s.runState = .stopped → StepEnd s s
  /-- R507. -/
  | idle : s.runState = .halted → s.pending = 0 → StepEnd s (s.tick 1)
  /-- R500: the fault is that of an access in a hole, or that of the illegal byte at PC. -/
  | faulted (k : Nat) (e : Fault) : k ≤ 2 → s.runState ≠ .stopped →
      (e.OfHole s.mmu ∨ ∃ op : IllegalByte, e = .unimplementedOpcode op.byte none ∧ s.load s.regs.pc = .ok op.byte) →
      StepEnd s (s.takeFault k e)
  /-- R506. -/
  | interrupt (t : State) : s.runState ≠ .stopped → s.ime = true → s.pending ≠ 0 → s.awake.dispatch = .ok t →
      StepEnd s (t.tick 5)
  /-- R130: the instruction ran in the awakened state, and the step settled the EI delay. -/
  | ran (i : Instr) (t : State) : s.runState ≠ .stopped → ¬(s.ime = true ∧ s.pending ≠ 0) → s.awake.fetch = .ok i →
      exec i s.awake = .next t → InstrEffect s.awake t → StepEnd s (settle s t)

theorem fetch_error {s : State} {k : Nat} {e : Fault} (h : s.fetch = .error (k, e)) : k ≤ 1 ∧ e.OfHole s.mmu := by
  unfold State.fetch at h
  split at h
  · rename_i hl
    cases h
    exact ⟨by omega, Mmu.readByte_hole hl⟩
  · split at h
    · cases h
    · split at h <;> rename_i hl <;> cases h
      exact ⟨by omega, Mmu.readByte_hole hl⟩
    · split at h
      · rename_i hl
        cases h
        exact ⟨by omega, Mmu.readByte_hole hl⟩
      · rename_i hl
        cases h
        exact ⟨by omega, Mmu.readByte_hole hl⟩
      · cases h

/-- R135: only the illegal bytes decode to the rows of the illegal bytes. -/
theorem decodeForm_illegal {b b1 b2 : Byte} {op : IllegalByte} (h : decodeForm b b1 b2 = .illegal op) : b = op.byte := by
  have hb : b = opcodeOf (fieldX b) (fieldY b).num (fieldZ b).num := by
    have : ∀ b : Byte, b = opcodeOf (fieldX b) (fieldY b).num (fieldZ b).num := by decide
    exact this b
  unfold decodeForm at h
  have hx : fieldX b < 4 := by unfold fieldX; have := b.isLt; omega
  generalize fieldX b = x at *
  generalize fieldY b = y at *
  generalize fieldZ b = z at *
  match x, hx with
  | 0, _ => cases z <;> cases y <;> cases h
  | 1, _ => cases z <;> cases y <;> cases h
  | 2, _ => cases h
  | 3, _ =>
    cases z <;> cases y <;> first
      | (cases h; done)
      | (cases h; exact hb)
      | (simp only [quarter3, cbForm] at h
         split at h <;> cases h)

/-- What is fetched is an instruction that the byte at PC and two more decode to. -/
theorem fetch_ok {s : State} {i : Instr} (h : s.fetch = .ok i) :
    ∃ op b1 b2, s.load s.regs.pc = .ok op ∧ i.form = decodeForm op b1 b2 := by
  unfold State.fetch at h
  split at h
  · cases h
  · rename_i op hl
    refine ⟨op, ?_⟩
    split at h
    · cases h
      exact ⟨0, 0, hl, Form.form_instr _⟩
    · split at h <;> cases h
      exact ⟨_, 0, hl, Form.form_instr _⟩
    · split at h <;> cases h
      exact ⟨_, _, hl, Form.form_instr _⟩

theorem activeStep_end {s : State} (hr : s.runState ≠ .stopped) :
    ∃ t, activeStep s s.awake = .next t ∧ StepEnd s t := by
  unfold activeStep
  split
  · rename_i hi
    unfold interruptStep
    cases hd : s.awake.dispatch with
    | error e => exact ⟨_, rfl, .faulted 0 e (by omega) hr (.inl (State.dispatch_hole (s := s.awake) hd))⟩
    | ok t => exact ⟨_, rfl, .interrupt t hr hi.1 hi.2 hd⟩
  · rename_i hi
    unfold instructionStep
    cases hq : s.awake.fetch with
    | error p =>
      obtain ⟨k, e⟩ := p
      obtain ⟨hk, he⟩ := fetch_error hq
      exact ⟨_, rfl, .faulted k e (by omega) hr (.inl he)⟩
    | ok i =>
      obtain ⟨t, ht, hend⟩ := exec_next i s.awake
      simp only [ht]
      refine ⟨_, rfl, ?_⟩
      obtain ⟨k, e, hk, rfl, ho⟩ | he := hend
      · refine .faulted k e (by omega) hr (ho.imp id ?_)
        rintro ⟨op, hi, rfl⟩
        obtain ⟨b, b1, b2, hl, hd⟩ := fetch_ok hq
        exact ⟨op, rfl, decodeForm_illegal (hd.symm.trans hi) ▸ hl⟩
      · exact .ran i t hr hi hq ht he

/-- R500, R501: a step of a core with no fault latched answers a next state, in one of the ways above. -/
theorem step_next {s : State} (hf : s.fault = none) : ∃ t, step s = .next t ∧ StepEnd s t := by
  cases hr : s.runState with
  | stopped => exact ⟨s, step_stopped hf hr, .stopped hr⟩
  | running =>
    rw [step_active hf (.inl hr)]
    exact activeStep_end (by simp [hr])
  | halted =>
    by_cases hp : s.pending = 0
    · exact ⟨_, step_idle hf hr hp, .idle hr hp⟩
    · rw [step_active hf (.inr ⟨hr, hp⟩)]
      exact activeStep_end (by simp [hr])

/-- What a step that answers a next state did. -/
theorem step_cases {s t : State} (h : step s = .next t) : s.fault = none ∧ StepEnd s t := by
  cases hf : s.fault with
  | some e => rw [step_faulted hf] at h; cases h
  | none =>
    obtain ⟨u, hu, he⟩ := step_next hf
    rw [h] at hu
    cases hu
    exact ⟨rfl, he⟩

/-- `settle` after an instruction that latched no fault: at most the two interrupt latches change. -/
theorem settle_eq {s t : State} (hf : t.fault = none) :
    settle s t = if s.eiPending && t.eiPending then t.setIme true false else t := by
  simp [settle, hf]

theorem settle_mmu (s t : State) : (settle s t).mmu = t.mmu := by
  unfold settle; split <;> (try split) <;> rfl

theorem settle_regs (s t : State) : (settle s t).regs = t.regs := by
  unfold settle; split <;> (try split) <;> rfl

theorem settle_clock (s t : State) : (settle s t).clock = t.clock := by
  unfold settle; split <;> (try split) <;> rfl

theorem settle_fault (s t : State) : (settle s t).fault = t.fault := by
  unfold settle; split <;> (try split) <;> rfl

/-- The memory of a step changes by writes of bytes only. -/
theorem StepEnd.writes {s t : State} (h : StepEnd s t) : Mmu.Writes s.mmu t.mmu := by
  cases h with
  | stopped => exact .refl _
  | idle => exact .refl _
  | faulted => exact .refl _
  | interrupt t _ _ _ hd => exact (State.dispatch_ok hd).2.2.2.2.2.2
  | ran i t _ _ _ _ he => rw [settle_mmu]; exact he.mmu

end Sys2Proof.Machine
end

