-- ==== Sys2Proof/Tests/Slice0.lean ====
section
/-! SUPPORT. Tests. Expected values are the spec's: its opcode maps and tables (R123, R140 to R143), its test vectors (95_test_vectors.md,
named `test_V<n>` after them) and hand calculation from its rules. At the end, a witness for the hypotheses of every obligation that
has any. -/

namespace Sys2Proof.Tests

open Sys2Proof.Machine

/-! ### Small states -/

/-- Reset with a ROM that is zero but for `code` at 0x0100, where PC is. -/
def cart (code : List Byte) : State := State.reset.withMmu { State.reset.mmu with rom := some (Memory.ofBytes 0x0100 code) }

/-- Reset with a BIOS image that begins with `code`, and no ROM. -/
def boot (code : List Byte) : State :=
  (State.reset.withMmu { State.reset.mmu with bios := some (Memory.ofBytes 0 code) }).hostReset

/-- A state with other registers. -/
def on (s : State) (f : Regs → Regs) : State := s.withRegs (f s.regs)

/-- A state with one byte of memory put in from outside. -/
def poke (s : State) (a : Word) (v : Byte) : State := s.withMmu (s.mmu.plant a v)

/-- The state after one step, or the state itself where the step is refused. -/
def after (s : State) : State :=
  match step s with
  | .next t => t
  | .fault _ => s
  | .refused _ => s

/-- The byte at an address; 0 where there is none. -/
def peek (s : State) (a : Word) : Byte := (s.load a).toOption.getD 0

theorem step_after {s : State} (h : s.fault = none) : step s = .next (after s) := by
  obtain ⟨t, ht, -⟩ := step_next h
  simp only [after, ht]

/-! ### WellFormed -/

/-- R133: the CB prefix's own constructor is the one ill-formed term. -/
theorem test_wellFormed_refuses_cb_prefix : (Instr.cb_prefix 0x37).wellFormed = false := by decide

theorem test_wellFormed_accepts_the_instruction_it_stands_for : (decode3 0xCB 0x37 0).wellFormed = true := by decide

theorem test_wellFormed_accepts_illegal_bytes : Instr.illegal_D3.wellFormed = true := by decide

/-! ### Decoding: the maps of R140 and R141, row by row, with operand bytes 0x34 and 0x12 -/

theorem test_decode_primary_0x : (List.range 16).map (fun n => decode3 (BitVec.ofNat 8 (0x00 + n)) 0x34 0x12) =
    [.nop, .ld_BC_d16 0x1234, .ld_mBC_A, .inc_BC, .inc_B, .dec_B, .ld_B_d8 0x34, .rlca, .ld_ma16_SP 0x1234, .add_HL_BC,
     .ld_A_mBC, .dec_BC, .inc_C, .dec_C, .ld_C_d8 0x34, .rrca] := by decide

theorem test_decode_primary_1x : (List.range 16).map (fun n => decode3 (BitVec.ofNat 8 (0x10 + n)) 0x34 0x12) =
    [.stop 0x34, .ld_DE_d16 0x1234, .ld_mDE_A, .inc_DE, .inc_D, .dec_D, .ld_D_d8 0x34, .rla, .jr_e8 0x34, .add_HL_DE,
     .ld_A_mDE, .dec_DE, .inc_E, .dec_E, .ld_E_d8 0x34, .rra] := by decide

theorem test_decode_primary_2x : (List.range 16).map (fun n => decode3 (BitVec.ofNat 8 (0x20 + n)) 0x34 0x12) =
    [.jr_NZ_e8 0x34, .ld_HL_d16 0x1234, .ld_mHLinc_A, .inc_HL, .inc_H, .dec_H, .ld_H_d8 0x34, .daa, .jr_Z_e8 0x34,
     .add_HL_HL, .ld_A_mHLinc, .dec_HL, .inc_L, .dec_L, .ld_L_d8 0x34, .cpl] := by decide

theorem test_decode_primary_3x : (List.range 16).map (fun n => decode3 (BitVec.ofNat 8 (0x30 + n)) 0x34 0x12) =
    [.jr_NC_e8 0x34, .ld_SP_d16 0x1234, .ld_mHLdec_A, .inc_SP, .inc_mHL, .dec_mHL, .ld_mHL_d8 0x34, .scf, .jr_C_e8 0x34,
     .add_HL_SP, .ld_A_mHLdec, .dec_SP, .inc_A, .dec_A, .ld_A_d8 0x34, .ccf] := by decide

theorem test_decode_primary_4x : (List.range 16).map (fun n => decode3 (BitVec.ofNat 8 (0x40 + n)) 0x34 0x12) =
    [.ld_B_B, .ld_B_C, .ld_B_D, .ld_B_E, .ld_B_H, .ld_B_L, .ld_B_mHL, .ld_B_A, .ld_C_B, .ld_C_C, .ld_C_D, .ld_C_E,
     .ld_C_H, .ld_C_L, .ld_C_mHL, .ld_C_A] := by decide

theorem test_decode_primary_5x : (List.range 16).map (fun n => decode3 (BitVec.ofNat 8 (0x50 + n)) 0x34 0x12) =
    [.ld_D_B, .ld_D_C, .ld_D_D, .ld_D_E, .ld_D_H, .ld_D_L, .ld_D_mHL, .ld_D_A, .ld_E_B, .ld_E_C, .ld_E_D, .ld_E_E,
     .ld_E_H, .ld_E_L, .ld_E_mHL, .ld_E_A] := by decide

theorem test_decode_primary_6x : (List.range 16).map (fun n => decode3 (BitVec.ofNat 8 (0x60 + n)) 0x34 0x12) =
    [.ld_H_B, .ld_H_C, .ld_H_D, .ld_H_E, .ld_H_H, .ld_H_L, .ld_H_mHL, .ld_H_A, .ld_L_B, .ld_L_C, .ld_L_D, .ld_L_E,
     .ld_L_H, .ld_L_L, .ld_L_mHL, .ld_L_A] := by decide

theorem test_decode_primary_7x : (List.range 16).map (fun n => decode3 (BitVec.ofNat 8 (0x70 + n)) 0x34 0x12) =
    [.ld_mHL_B, .ld_mHL_C, .ld_mHL_D, .ld_mHL_E, .ld_mHL_H, .ld_mHL_L, .halt, .ld_mHL_A, .ld_A_B, .ld_A_C, .ld_A_D,
     .ld_A_E, .ld_A_H, .ld_A_L, .ld_A_mHL, .ld_A_A] := by decide

theorem test_decode_primary_8x : (List.range 16).map (fun n => decode3 (BitVec.ofNat 8 (0x80 + n)) 0x34 0x12) =
    [.add_A_B, .add_A_C, .add_A_D, .add_A_E, .add_A_H, .add_A_L, .add_A_mHL, .add_A_A, .adc_A_B, .adc_A_C, .adc_A_D,
     .adc_A_E, .adc_A_H, .adc_A_L, .adc_A_mHL, .adc_A_A] := by decide

theorem test_decode_primary_9x : (List.range 16).map (fun n => decode3 (BitVec.ofNat 8 (0x90 + n)) 0x34 0x12) =
    [.sub_B, .sub_C, .sub_D, .sub_E, .sub_H, .sub_L, .sub_mHL, .sub_A, .sbc_A_B, .sbc_A_C, .sbc_A_D, .sbc_A_E, .sbc_A_H,
     .sbc_A_L, .sbc_A_mHL, .sbc_A_A] := by decide

theorem test_decode_primary_Ax : (List.range 16).map (fun n => decode3 (BitVec.ofNat 8 (0xA0 + n)) 0x34 0x12) =
    [.and_B, .and_C, .and_D, .and_E, .and_H, .and_L, .and_mHL, .and_A, .xor_B, .xor_C, .xor_D, .xor_E, .xor_H, .xor_L,
     .xor_mHL, .xor_A] := by decide

theorem test_decode_primary_Bx : (List.range 16).map (fun n => decode3 (BitVec.ofNat 8 (0xB0 + n)) 0x34 0x12) =
    [.or_B, .or_C, .or_D, .or_E, .or_H, .or_L, .or_mHL, .or_A, .cp_B, .cp_C, .cp_D, .cp_E, .cp_H, .cp_L, .cp_mHL, .cp_A] := by decide

theorem test_decode_primary_Cx : (List.range 16).map (fun n => decode3 (BitVec.ofNat 8 (0xC0 + n)) 0x34 0x12) =
    [.ret_NZ, .pop_BC, .jp_NZ_a16 0x1234, .jp_a16 0x1234, .call_NZ_a16 0x1234, .push_BC, .add_A_d8 0x34, .rst_00H, .ret_Z,
     .ret, .jp_Z_a16 0x1234, .swap_H, .call_Z_a16 0x1234, .call_a16 0x1234, .adc_A_d8 0x34, .rst_08H] := by decide

theorem test_decode_primary_Dx : (List.range 16).map (fun n => decode3 (BitVec.ofNat 8 (0xD0 + n)) 0x34 0x12) =
    [.ret_NC, .pop_DE, .jp_NC_a16 0x1234, .illegal_D3, .call_NC_a16 0x1234, .push_DE, .sub_d8 0x34, .rst_10H, .ret_C,
     .reti, .jp_C_a16 0x1234, .illegal_DB, .call_C_a16 0x1234, .illegal_DD, .sbc_A_d8 0x34, .rst_18H] := by decide

theorem test_decode_primary_Ex : (List.range 16).map (fun n => decode3 (BitVec.ofNat 8 (0xE0 + n)) 0x34 0x12) =
    [.ldh_ma8_A 0x34, .pop_HL, .ld_mC_A, .illegal_E3, .illegal_E4, .push_HL, .and_d8 0x34, .rst_20H, .add_SP_e8 0x34,
     .jp_HL, .ld_ma16_A 0x1234, .illegal_EB, .illegal_EC, .illegal_ED, .xor_d8 0x34, .rst_28H] := by decide

theorem test_decode_primary_Fx : (List.range 16).map (fun n => decode3 (BitVec.ofNat 8 (0xF0 + n)) 0x34 0x12) =
    [.ldh_A_ma8 0x34, .pop_AF, .ld_A_mC, .di, .illegal_F4, .push_AF, .or_d8 0x34, .rst_30H, .ld_HL_SPe8 0x34, .ld_SP_HL,
     .ld_A_ma16 0x1234, .ei, .illegal_FC, .illegal_FD, .cp_d8 0x34, .rst_38H] := by decide

theorem test_decode_cb_0x : (List.range 16).map (fun n => decode3 0xCB (BitVec.ofNat 8 (0x00 + n)) 0) =
    [.rlc_B, .rlc_C, .rlc_D, .rlc_E, .rlc_H, .rlc_L, .rlc_mHL, .rlc_A, .rrc_B, .rrc_C, .rrc_D, .rrc_E, .rrc_H, .rrc_L,
     .rrc_mHL, .rrc_A] := by decide

theorem test_decode_cb_1x : (List.range 16).map (fun n => decode3 0xCB (BitVec.ofNat 8 (0x10 + n)) 0) =
    [.rl_B, .rl_C, .rl_D, .rl_E, .rl_H, .rl_L, .rl_mHL, .rl_A, .rr_B, .rr_C, .rr_D, .rr_E, .rr_H, .rr_L, .rr_mHL, .rr_A] := by decide

theorem test_decode_cb_2x : (List.range 16).map (fun n => decode3 0xCB (BitVec.ofNat 8 (0x20 + n)) 0) =
    [.sla_B, .sla_C, .sla_D, .sla_E, .sla_H, .sla_L, .sla_mHL, .sla_A, .sra_B, .sra_C, .sra_D, .sra_E, .sra_H, .sra_L,
     .sra_mHL, .sra_A] := by decide

theorem test_decode_cb_3x : (List.range 16).map (fun n => decode3 0xCB (BitVec.ofNat 8 (0x30 + n)) 0) =
    [.swap_B, .swap_C, .swap_D, .swap_E, .swap_H, .swap_L, .swap_mHL, .swap_A, .srl_B, .srl_C, .srl_D, .srl_E, .srl_H,
     .srl_L, .srl_mHL, .srl_A] := by decide

theorem test_decode_cb_4x : (List.range 16).map (fun n => decode3 0xCB (BitVec.ofNat 8 (0x40 + n)) 0) =
    [.bit_0_B, .bit_0_C, .bit_0_D, .bit_0_E, .bit_0_H, .bit_0_L, .bit_0_mHL, .bit_0_A, .bit_1_B, .bit_1_C, .bit_1_D,
     .bit_1_E, .bit_1_H, .bit_1_L, .bit_1_mHL, .bit_1_A] := by decide

theorem test_decode_cb_5x : (List.range 16).map (fun n => decode3 0xCB (BitVec.ofNat 8 (0x50 + n)) 0) =
    [.bit_2_B, .bit_2_C, .bit_2_D, .bit_2_E, .bit_2_H, .bit_2_L, .bit_2_mHL, .bit_2_A, .bit_3_B, .bit_3_C, .bit_3_D,
     .bit_3_E, .bit_3_H, .bit_3_L, .bit_3_mHL, .bit_3_A] := by decide

theorem test_decode_cb_6x : (List.range 16).map (fun n => decode3 0xCB (BitVec.ofNat 8 (0x60 + n)) 0) =
    [.bit_4_B, .bit_4_C, .bit_4_D, .bit_4_E, .bit_4_H, .bit_4_L, .bit_4_mHL, .bit_4_A, .bit_5_B, .bit_5_C, .bit_5_D,
     .bit_5_E, .bit_5_H, .bit_5_L, .bit_5_mHL, .bit_5_A] := by decide

theorem test_decode_cb_7x : (List.range 16).map (fun n => decode3 0xCB (BitVec.ofNat 8 (0x70 + n)) 0) =
    [.bit_6_B, .bit_6_C, .bit_6_D, .bit_6_E, .bit_6_H, .bit_6_L, .bit_6_mHL, .bit_6_A, .bit_7_B, .bit_7_C, .bit_7_D,
     .bit_7_E, .bit_7_H, .bit_7_L, .bit_7_mHL, .bit_7_A] := by decide

theorem test_decode_cb_8x : (List.range 16).map (fun n => decode3 0xCB (BitVec.ofNat 8 (0x80 + n)) 0) =
    [.res_0_B, .res_0_C, .res_0_D, .res_0_E, .res_0_H, .res_0_L, .res_0_mHL, .res_0_A, .res_1_B, .res_1_C, .res_1_D,
     .res_1_E, .res_1_H, .res_1_L, .res_1_mHL, .res_1_A] := by decide

theorem test_decode_cb_9x : (List.range 16).map (fun n => decode3 0xCB (BitVec.ofNat 8 (0x90 + n)) 0) =
    [.res_2_B, .res_2_C, .res_2_D, .res_2_E, .res_2_H, .res_2_L, .res_2_mHL, .res_2_A, .res_3_B, .res_3_C, .res_3_D,
     .res_3_E, .res_3_H, .res_3_L, .res_3_mHL, .res_3_A] := by decide

theorem test_decode_cb_Ax : (List.range 16).map (fun n => decode3 0xCB (BitVec.ofNat 8 (0xA0 + n)) 0) =
    [.res_4_B, .res_4_C, .res_4_D, .res_4_E, .res_4_H, .res_4_L, .res_4_mHL, .res_4_A, .res_5_B, .res_5_C, .res_5_D,
     .res_5_E, .res_5_H, .res_5_L, .res_5_mHL, .res_5_A] := by decide

theorem test_decode_cb_Bx : (List.range 16).map (fun n => decode3 0xCB (BitVec.ofNat 8 (0xB0 + n)) 0) =
    [.res_6_B, .res_6_C, .res_6_D, .res_6_E, .res_6_H, .res_6_L, .res_6_mHL, .res_6_A, .res_7_B, .res_7_C, .res_7_D,
     .res_7_E, .res_7_H, .res_7_L, .res_7_mHL, .res_7_A] := by decide

theorem test_decode_cb_Cx : (List.range 16).map (fun n => decode3 0xCB (BitVec.ofNat 8 (0xC0 + n)) 0) =
    [.set_0_B, .set_0_C, .set_0_D, .set_0_E, .set_0_H, .set_0_L, .set_0_mHL, .set_0_A, .set_1_B, .set_1_C, .set_1_D,
     .set_1_E, .set_1_H, .set_1_L, .set_1_mHL, .set_1_A] := by decide

theorem test_decode_cb_Dx : (List.range 16).map (fun n => decode3 0xCB (BitVec.ofNat 8 (0xD0 + n)) 0) =
    [.set_2_B, .set_2_C, .set_2_D, .set_2_E, .set_2_H, .set_2_L, .set_2_mHL, .set_2_A, .set_3_B, .set_3_C, .set_3_D,
     .set_3_E, .set_3_H, .set_3_L, .set_3_mHL, .set_3_A] := by decide

theorem test_decode_cb_Ex : (List.range 16).map (fun n => decode3 0xCB (BitVec.ofNat 8 (0xE0 + n)) 0) =
    [.set_4_B, .set_4_C, .set_4_D, .set_4_E, .set_4_H, .set_4_L, .set_4_mHL, .set_4_A, .set_5_B, .set_5_C, .set_5_D,
     .set_5_E, .set_5_H, .set_5_L, .set_5_mHL, .set_5_A] := by decide

theorem test_decode_cb_Fx : (List.range 16).map (fun n => decode3 0xCB (BitVec.ofNat 8 (0xF0 + n)) 0) =
    [.set_6_B, .set_6_C, .set_6_D, .set_6_E, .set_6_H, .set_6_L, .set_6_mHL, .set_6_A, .set_7_B, .set_7_C, .set_7_D,
     .set_7_E, .set_7_H, .set_7_L, .set_7_mHL, .set_7_A] := by decide

/-! ### Lengths: the table of R123 -/

theorem test_lengths_00_to_3F : (List.range 64).map (fun n => opcodeLength (BitVec.ofNat 8 (0x00 + n))) =
    [1, 3, 1, 1, 1, 1, 2, 1, 3, 1, 1, 1, 1, 1, 2, 1, 2, 3, 1, 1, 1, 1, 2, 1, 2, 1, 1, 1, 1, 1, 2, 1, 2, 3, 1, 1, 1, 1, 2,
     1, 2, 1, 1, 1, 1, 1, 2, 1, 2, 3, 1, 1, 1, 1, 2, 1, 2, 1, 1, 1, 1, 1, 2, 1] := by decide

theorem test_lengths_40_to_7F : (List.range 64).map (fun n => opcodeLength (BitVec.ofNat 8 (0x40 + n))) =
    [1, 1, 1, 1, 1, 1, 1, 1, 1, 1, 1, 1, 1, 1, 1, 1, 1, 1, 1, 1, 1, 1, 1, 1, 1, 1, 1, 1, 1, 1, 1, 1, 1, 1, 1, 1, 1, 1, 1,
     1, 1, 1, 1, 1, 1, 1, 1, 1, 1, 1, 1, 1, 1, 1, 1, 1, 1, 1, 1, 1, 1, 1, 1, 1] := by decide

theorem test_lengths_80_to_BF : (List.range 64).map (fun n => opcodeLength (BitVec.ofNat 8 (0x80 + n))) =
    [1, 1, 1, 1, 1, 1, 1, 1, 1, 1, 1, 1, 1, 1, 1, 1, 1, 1, 1, 1, 1, 1, 1, 1, 1, 1, 1, 1, 1, 1, 1, 1, 1, 1, 1, 1, 1, 1, 1,
     1, 1, 1, 1, 1, 1, 1, 1, 1, 1, 1, 1, 1, 1, 1, 1, 1, 1, 1, 1, 1, 1, 1, 1, 1] := by decide

theorem test_lengths_C0_to_FF : (List.range 64).map (fun n => opcodeLength (BitVec.ofNat 8 (0xC0 + n))) =
    [1, 1, 3, 3, 3, 1, 2, 1, 1, 1, 3, 2, 3, 3, 2, 1, 1, 1, 3, 1, 3, 1, 2, 1, 1, 1, 3, 1, 3, 1, 2, 1, 2, 1, 1, 1, 1, 1, 2,
     1, 2, 1, 3, 1, 1, 1, 2, 1, 2, 1, 1, 1, 1, 1, 2, 1, 2, 1, 3, 1, 1, 1, 2, 1] := by decide

/-! ### Cycle counts: the tables of R142 and R143 -/

/-- The M-cycles an instruction takes with every address mapped and F as given. -/
def cycles (f : Byte) (i : Instr) : Nat :=
  match exec i (on (cart []) fun r => { r with f := f }) with
  | .next t => t.clock
  | .fault _ => 0
  | .refused _ => 0

theorem test_cycles_00_to_3F : (List.range 64).map (fun n => cycles 0x00 (decode3 (BitVec.ofNat 8 (0x00 + n)) 0 0)) =
    [1, 3, 2, 2, 1, 1, 2, 1, 5, 2, 2, 2, 1, 1, 2, 1, 1, 3, 2, 2, 1, 1, 2, 1, 3, 2, 2, 2, 1, 1, 2, 1, 3, 3, 2, 2, 1, 1, 2,
     1, 2, 2, 2, 2, 1, 1, 2, 1, 3, 3, 2, 2, 3, 3, 3, 1, 2, 2, 2, 2, 1, 1, 2, 1] := by decide

theorem test_cycles_40_to_7F : (List.range 64).map (fun n => cycles 0x00 (decode3 (BitVec.ofNat 8 (0x40 + n)) 0 0)) =
    [1, 1, 1, 1, 1, 1, 2, 1, 1, 1, 1, 1, 1, 1, 2, 1, 1, 1, 1, 1, 1, 1, 2, 1, 1, 1, 1, 1, 1, 1, 2, 1, 1, 1, 1, 1, 1, 1, 2,
     1, 1, 1, 1, 1, 1, 1, 2, 1, 2, 2, 2, 2, 2, 2, 1, 2, 1, 1, 1, 1, 1, 1, 2, 1] := by decide

theorem test_cycles_80_to_BF : (List.range 64).map (fun n => cycles 0x00 (decode3 (BitVec.ofNat 8 (0x80 + n)) 0 0)) =
    [1, 1, 1, 1, 1, 1, 2, 1, 1, 1, 1, 1, 1, 1, 2, 1, 1, 1, 1, 1, 1, 1, 2, 1, 1, 1, 1, 1, 1, 1, 2, 1, 1, 1, 1, 1, 1, 1, 2,
     1, 1, 1, 1, 1, 1, 1, 2, 1, 1, 1, 1, 1, 1, 1, 2, 1, 1, 1, 1, 1, 1, 1, 2, 1] := by decide

theorem test_cycles_C0_to_FF : (List.range 64).map (fun n => cycles 0x00 (decode3 (BitVec.ofNat 8 (0xC0 + n)) 0 0)) =
    [5, 3, 4, 4, 6, 4, 2, 4, 2, 4, 3, 2, 3, 6, 2, 4, 5, 3, 4, 0, 6, 4, 2, 4, 2, 4, 3, 0, 3, 0, 2, 4, 3, 3, 2, 0, 0, 4, 2,
     4, 4, 1, 4, 0, 0, 0, 2, 4, 3, 3, 2, 1, 0, 4, 2, 4, 3, 2, 4, 1, 0, 0, 2, 4] := by decide

/-- The sixteen conditional transfers with Z and C set. -/
theorem test_cycles_of_conditions_that_change : ([0x20, 0x28, 0x30, 0x38, 0xC0, 0xC2, 0xC4, 0xC8, 0xCA, 0xCC, 0xD0, 0xD2, 0xD4, 0xD8, 0xDA, 0xDC] : List Byte).map (fun op => cycles 0xF0 (decode3 op 0 0)) =
    [2, 3, 2, 3, 2, 3, 3, 5, 4, 6, 2, 3, 3, 5, 4, 6] := by decide

theorem test_cycles_cb_00_to_3F : (List.range 64).map (fun n => cycles 0x00 (decode3 0xCB (BitVec.ofNat 8 (0x00 + n)) 0)) =
    [2, 2, 2, 2, 2, 2, 4, 2, 2, 2, 2, 2, 2, 2, 4, 2, 2, 2, 2, 2, 2, 2, 4, 2, 2, 2, 2, 2, 2, 2, 4, 2, 2, 2, 2, 2, 2, 2, 4,
     2, 2, 2, 2, 2, 2, 2, 4, 2, 2, 2, 2, 2, 2, 2, 4, 2, 2, 2, 2, 2, 2, 2, 4, 2] := by decide

theorem test_cycles_cb_40_to_7F : (List.range 64).map (fun n => cycles 0x00 (decode3 0xCB (BitVec.ofNat 8 (0x40 + n)) 0)) =
    [2, 2, 2, 2, 2, 2, 3, 2, 2, 2, 2, 2, 2, 2, 3, 2, 2, 2, 2, 2, 2, 2, 3, 2, 2, 2, 2, 2, 2, 2, 3, 2, 2, 2, 2, 2, 2, 2, 3,
     2, 2, 2, 2, 2, 2, 2, 3, 2, 2, 2, 2, 2, 2, 2, 3, 2, 2, 2, 2, 2, 2, 2, 3, 2] := by decide

theorem test_cycles_cb_80_to_BF : (List.range 64).map (fun n => cycles 0x00 (decode3 0xCB (BitVec.ofNat 8 (0x80 + n)) 0)) =
    [2, 2, 2, 2, 2, 2, 4, 2, 2, 2, 2, 2, 2, 2, 4, 2, 2, 2, 2, 2, 2, 2, 4, 2, 2, 2, 2, 2, 2, 2, 4, 2, 2, 2, 2, 2, 2, 2, 4,
     2, 2, 2, 2, 2, 2, 2, 4, 2, 2, 2, 2, 2, 2, 2, 4, 2, 2, 2, 2, 2, 2, 2, 4, 2] := by decide

theorem test_cycles_cb_C0_to_FF : (List.range 64).map (fun n => cycles 0x00 (decode3 0xCB (BitVec.ofNat 8 (0xC0 + n)) 0)) =
    [2, 2, 2, 2, 2, 2, 4, 2, 2, 2, 2, 2, 2, 2, 4, 2, 2, 2, 2, 2, 2, 2, 4, 2, 2, 2, 2, 2, 2, 2, 4, 2, 2, 2, 2, 2, 2, 2, 4,
     2, 2, 2, 2, 2, 2, 2, 4, 2, 2, 2, 2, 2, 2, 2, 4, 2, 2, 2, 2, 2, 2, 2, 4, 2] := by decide

/-! ### Single steps: vectors of 95_test_vectors.md -/

theorem test_V1_ADD_A_B_zero_half_carry :
    let t := after (on (cart [0x80]) fun r => { r with a := 0x3A, b := 0xC6 })
    (t.regs.a, t.regs.f, t.clock, t.regs.pc) = (0x00, 0xB0, 1, 0x0101) := by decide

theorem test_V6_ADC_A_B_H_from_carry_in_only :
    let t := after (on (cart [0x88]) fun r => { r with a := 0x0F, b := 0x00, f := 0x10 })
    (t.regs.a, t.regs.f) = (0x10, 0x20) := by decide

theorem test_V7_ADC_A_A_0xFF_0xFF_1 :
    let t := after (on (cart [0x8F]) fun r => { r with a := 0xFF, f := 0x10 })
    (t.regs.a, t.regs.f) = (0xFF, 0x30) := by decide

theorem test_V8_ADC_A_HL :
    let t := after (poke (on (cart [0x8E]) fun r => { r with a := 0xE1, f := 0x10, h := 0xC0, l := 0x00 }) 0xC000 0x1E)
    (t.regs.a, t.regs.f) = (0x00, 0xB0) := by decide

theorem test_V12_SUB_HL_borrow :
    let t := after (poke (on (cart [0x96]) fun r => { r with a := 0x3E, h := 0xC0, l := 0x00 }) 0xC000 0x40)
    (t.regs.a, t.regs.f) = (0xFE, 0x50) := by decide

theorem test_V13_SUB_d8_half_borrow :
    let t := after (on (cart [0xD6, 0x0F]) fun r => { r with a := 0x3E })
    (t.regs.a, t.regs.f) = (0x2F, 0x60) := by decide

theorem test_V16_SBC_A_B_0x00_0xFF_1 :
    let t := after (on (cart [0x98]) fun r => { r with a := 0x00, b := 0xFF, f := 0x10 })
    (t.regs.a, t.regs.f) = (0x00, 0xF0) := by decide

theorem test_V17_SBC_A_HL :
    let t := after (poke (on (cart [0x9E]) fun r => { r with a := 0x3B, f := 0x10, h := 0xC0, l := 0x00 }) 0xC000 0x4F)
    (t.regs.a, t.regs.f) = (0xEB, 0x70) := by decide

theorem test_V20_AND_HL_zero :
    let t := after (poke (on (cart [0xA6]) fun r => { r with a := 0x5A, h := 0xC0, l := 0x00 }) 0xC000 0x00)
    (t.regs.a, t.regs.f) = (0x00, 0xA0) := by decide

theorem test_V23_XOR_HL :
    let t := after (poke (on (cart [0xAE]) fun r => { r with a := 0xFF, h := 0xC0, l := 0x00 }) 0xC000 0x8A)
    (t.regs.a, t.regs.f) = (0x75, 0x00) := by decide

theorem test_V26_OR_B_zero :
    let t := after (on (cart [0xB0]) fun r => { r with a := 0x00, b := 0x00, f := 0x70 })
    (t.regs.a, t.regs.f) = (0x00, 0x80) := by decide

theorem test_V29_CP_B :
    let t := after (on (cart [0xB8]) fun r => { r with a := 0x3C, b := 0x2F })
    (t.regs.a, t.regs.f) = (0x3C, 0x60) := by decide

theorem test_V33_INC_A_0xFF :
    let t := after (on (cart [0x3C]) fun r => { r with a := 0xFF, f := 0x50 })
    (t.regs.a, t.regs.f) = (0x00, 0xB0) := by decide

theorem test_V35_INC_HL :
    let t := after (poke (on (cart [0x34]) fun r => { r with f := 0xF0, h := 0xC0, l := 0x00 }) 0xC000 0x50)
    (peek t 0xC000, t.regs.f, t.clock) = (0x51, 0x10, 3) := by decide

theorem test_V37_DEC_B_0x00 :
    let t := after (on (cart [0x05]) fun r => { r with b := 0x00, f := 0x80 })
    (t.regs.b, t.regs.f) = (0xFF, 0x60) := by decide

theorem test_V39_DEC_HL :
    let t := after (poke (on (cart [0x35]) fun r => { r with f := 0x80, h := 0xC0, l := 0x00 }) 0xC000 0x00)
    (peek t 0xC000, t.regs.f, t.clock) = (0xFF, 0x60, 3) := by decide

theorem test_V42_DAA_0x9A :
    let t := after (on (cart [0x27]) fun r => { r with a := 0x9A, f := 0x00 })
    (t.regs.a, t.regs.f) = (0x00, 0x90) := by decide

theorem test_V43_DAA_A_0xF0_N_C :
    let t := after (on (cart [0x27]) fun r => { r with a := 0xF0, f := 0x50 })
    (t.regs.a, t.regs.f) = (0x90, 0x50) := by decide

theorem test_V45_CPL :
    let t := after (on (cart [0x2F]) fun r => { r with a := 0x35, f := 0x80 })
    (t.regs.a, t.regs.f) = (0xCA, 0xE0) := by decide

theorem test_V46_SCF :
    let t := after (on (cart [0x37]) fun r => { r with f := 0xE0 })
    (t.regs.f) = (0x90) := by decide

theorem test_V47_CCF_C_1 :
    let t := after (on (cart [0x3F]) fun r => { r with f := 0xF0 })
    (t.regs.f) = (0x80) := by decide

theorem test_V50_RLCA_0x00_Z_stays_0 :
    let t := after (on (cart [0x07]) fun r => { r with a := 0x00, f := 0x80 })
    (t.regs.a, t.regs.f) = (0x00, 0x00) := by decide

theorem test_V51_RRCA :
    let t := after (on (cart [0x0F]) fun r => { r with a := 0x3B, f := 0x80 })
    (t.regs.a, t.regs.f) = (0x9D, 0x10) := by decide

theorem test_V52_RLA :
    let t := after (on (cart [0x17]) fun r => { r with a := 0x95, f := 0x10 })
    (t.regs.a, t.regs.f) = (0x2B, 0x10) := by decide

theorem test_V54_RRA_to_zero :
    let t := after (on (cart [0x1F]) fun r => { r with a := 0x01, f := 0x00 })
    (t.regs.a, t.regs.f) = (0x00, 0x10) := by decide

theorem test_V56_INC_HL_wrap :
    let t := after (on (cart [0x23]) fun r => { r with f := 0x00, h := 0xFF, l := 0xFF })
    (t.regs.hl, t.regs.f, t.clock) = (0x0000, 0x00, 2) := by decide

theorem test_V58_DEC_SP :
    let t := after (on (cart [0x3B]) fun r => { r with sp := 0x0000 })
    (t.regs.sp) = (0xFFFF) := by decide

theorem test_V60_ADD_HL_BC_bit_11_carry :
    let t := after (on (cart [0x09]) fun r => { r with f := 0x80, h := 0x0F, l := 0xFF, b := 0x00, c := 0x01 })
    (t.regs.hl, t.regs.f, t.clock) = (0x1000, 0xA0, 2) := by decide

theorem test_V62_ADD_SP_8 :
    let t := after (on (cart [0xE8, 0x08]) fun r => { r with f := 0xC0, sp := 0xFFF8 })
    (t.regs.sp, t.regs.f, t.clock) = (0x0000, 0x30, 4) := by decide

theorem test_V64_ADD_SP_128 :
    let t := after (on (cart [0xE8, 0x80]) fun r => { r with sp := 0xFFFE })
    (t.regs.sp, t.regs.f) = (0xFF7E, 0x10) := by decide

theorem test_V68_JP_NC_not_taken :
    let t := after (cart [0xD2, 0x00, 0x20])
    (t.regs.pc, t.clock) = (0x0103, 3) := by decide

theorem test_V69_JP_C_taken :
    let t := after (cart [0xDA, 0x00, 0x20])
    (t.regs.pc, t.clock) = (0x2000, 4) := by decide

theorem test_V70_JP_HL :
    let t := after (on (cart [0xE9]) fun r => { r with h := 0xC0, l := 0x00 })
    (t.regs.pc, t.clock) = (0xC000, 1) := by decide

theorem test_V72_JR_128 :
    let t := after (cart [0x18, 0x80])
    (t.regs.pc, t.clock) = (0x0082, 3) := by decide

theorem test_V74_JR_wraps_past_0xFFFF :
    let t := after (poke (poke (on (cart []) fun r => { r with pc := 0xFFF0 }) 0xFFF0 0x18) 0xFFF1 0x20)
    (t.regs.pc, t.clock) = (0x0012, 3) := by decide

theorem test_V77_JR_C_3_taken :
    let t := after (cart [0x38, 0xFD])
    (t.regs.pc, t.clock) = (0x00FF, 3) := by decide

theorem test_V80_CALL_Z_taken :
    let t := after (cart [0xCC, 0x34, 0x12])
    (t.regs.pc, t.regs.sp, peek t 0xFFFC, peek t 0xFFFD, t.clock) = (0x1234, 0xFFFC, 0x03, 0x01, 6) := by decide

theorem test_V81_RET :
    let t := after (poke (poke (on (cart [0xC9]) fun r => { r with sp := 0xDFF0 }) 0xDFF0 0x34) 0xDFF1 0x12)
    (t.regs.pc, t.regs.sp, t.clock) = (0x1234, 0xDFF2, 4) := by decide

theorem test_V83_RET_Z_taken :
    let t := after (poke (poke (on (cart [0xC8]) fun r => { r with sp := 0xDFF0 }) 0xDFF0 0x34) 0xDFF1 0x12)
    (t.regs.pc, t.regs.sp, t.clock) = (0x1234, 0xDFF2, 5) := by decide

theorem test_V84_RETI :
    let t := after ({ (poke (poke (on (cart [0xD9]) fun r => { r with sp := 0xDFF0 }) 0xDFF0 0x34) 0xDFF1 0x12) with ime := false })
    (t.regs.pc, t.regs.sp, t.ime, t.clock) = (0x1234, 0xDFF2, true, 4) := by decide

theorem test_V85_RST_38H :
    let t := after (poke (on (cart []) fun r => { r with pc := 0x0200 }) 0x0200 0xFF)
    (t.regs.pc, t.regs.sp, peek t 0xFFFC, peek t 0xFFFD, t.clock) = (0x0038, 0xFFFC, 0x01, 0x02, 4) := by decide

theorem test_V89_PUSH_DE_with_SP_0x0001_wraps :
    let t := after (on (cart [0xD5]) fun r => { r with d := 0xAB, e := 0xCD, sp := 0x0001 })
    (t.regs.sp, t.mmu.ie, peek t 0x0000) = (0xFFFF, 0xCD, 0xAB) := by decide

theorem test_V90_POP_AF_masks_F :
    let t := after (poke (poke (on (cart [0xF1]) fun r => { r with sp := 0xC000 }) 0xC000 0xFF) 0xC001 0x12)
    (t.regs.a, t.regs.f, t.regs.sp, t.clock) = (0x12, 0xF0, 0xC002, 3) := by decide

theorem test_V91_POP_HL_from_0xFFFF_0x0000 :
    let t := after (poke (on (cart [0xE1]) fun r => { r with sp := 0xFFFF }) 0xFFFF 0x77)
    (t.regs.hl, t.regs.sp) = (0x0077, 0x0001) := by decide

theorem test_V96_DI :
    let t := after ({ (cart [0xF3]) with ime := true })
    (t.ime, t.clock) = (false, 1) := by decide

theorem test_V104_LD_H_HL :
    let t := after (poke (on (cart [0x66]) fun r => { r with h := 0xC0, l := 0x00 }) 0xC000 0x9F)
    (t.regs.hl, t.clock) = (0x9F00, 2) := by decide

theorem test_V105_LD_HL_L :
    let t := after (on (cart [0x75]) fun r => { r with h := 0xC0, l := 0x12 })
    (peek t 0xC012, t.clock) = (0x12, 2) := by decide

theorem test_V106_LD_HL_d8_to_unusable_area :
    let t := after (on (cart [0x36, 0x5A]) fun r => { r with h := 0xFE, l := 0xA5 })
    (peek t 0xFEA5, t.clock) = (0x00, 3) := by decide

theorem test_V111_LD_HL_A_at_0xFFFF :
    let t := after (on (cart [0x22]) fun r => { r with a := 0x56, h := 0xFF, l := 0xFF })
    (t.mmu.ie, t.regs.hl, t.clock) = (0x56, 0x0000, 2) := by decide

theorem test_V114_LD_A_HL :
    let t := after (poke (on (cart [0x3A]) fun r => { r with h := 0xC0, l := 0x00 }) 0xC000 0x77)
    (t.regs.a, t.regs.hl, t.clock) = (0x77, 0xBFFF, 2) := by decide

theorem test_V115_LDH_a8_A :
    let t := after (on (cart [0xE0, 0x80]) fun r => { r with a := 0x9C })
    (peek t 0xFF80, t.clock) = (0x9C, 3) := by decide

theorem test_V116_LDH_A_0xFF_reads_IE :
    let t := after (poke (cart [0xF0, 0xFF]) 0xFFFF 0x1F)
    (t.regs.a, t.clock) = (0x1F, 3) := by decide

theorem test_V117_LD_C_A_to_0xFF50 :
    let t := after (on (((boot []).withMmu { (boot []).mmu with rom := some (Memory.ofBytes 0x0100 [0xE2]) })) fun r => { r with c := 0x50, pc := 0x0100 })
    (t.mmu.inBios, peek t 0xFF50, t.clock) = (false, 0x00, 2) := by decide

theorem test_V119_LD_a16_A_through_mirror :
    let t := after (on (cart [0xEA, 0x00, 0xE0]) fun r => { r with a := 0x42 })
    (peek t 0xC000, t.clock) = (0x42, 4) := by decide

theorem test_V122_LD_a16_SP :
    let t := after (on (cart [0x08, 0x00, 0xC1]) fun r => { r with sp := 0xFFF8 })
    (peek t 0xC100, peek t 0xC101, t.clock) = (0xF8, 0xFF, 5) := by decide

theorem test_V123_LD_0xFFFF_SP_wraps :
    let t := after (on (cart [0x08, 0xFF, 0xFF]) fun r => { r with sp := 0x1234 })
    (t.mmu.ie, peek t 0x0000) = (0x34, 0x12) := by decide

theorem test_V126_LD_HL_SP_1_from_0x00FF :
    let t := after (on (cart [0xF8, 0x01]) fun r => { r with sp := 0x00FF })
    (t.regs.hl, t.regs.f) = (0x0100, 0x30) := by decide

theorem test_V127_LD_SP_HL :
    let t := after (cart [0xF9])
    (t.regs.sp, t.clock) = (0x014D, 2) := by decide

theorem test_V128_RLC_B :
    let t := after (on (cart [0xCB, 0x00]) fun r => { r with b := 0x85, f := 0x00 })
    (t.regs.b, t.regs.f, t.clock, t.regs.pc) = (0x0B, 0x10, 2, 0x0102) := by decide

theorem test_V129_RLC_HL :
    let t := after (poke (on (cart [0xCB, 0x06]) fun r => { r with h := 0xC0, l := 0x00 }) 0xC000 0x80)
    (peek t 0xC000, t.regs.f, t.clock) = (0x01, 0x10, 4) := by decide

theorem test_V130_RLC_A_zero_sets_Z :
    let t := after (on (cart [0xCB, 0x07]) fun r => { r with a := 0x00, f := 0x00 })
    (t.regs.a, t.regs.f) = (0x00, 0x80) := by decide

theorem test_V133_RL_D_carry_in :
    let t := after (on (cart [0xCB, 0x12]) fun r => { r with d := 0x11, f := 0x10 })
    (t.regs.d, t.regs.f) = (0x23, 0x00) := by decide

theorem test_V135_RR_A_carry_in :
    let t := after (on (cart [0xCB, 0x1F]) fun r => { r with a := 0x8A, f := 0x10 })
    (t.regs.a, t.regs.f) = (0xC5, 0x00) := by decide

theorem test_V137_SRA_B_keeps_sign :
    let t := after (on (cart [0xCB, 0x28]) fun r => { r with b := 0x8A })
    (t.regs.b, t.regs.f) = (0xC5, 0x00) := by decide

theorem test_V138_SRA_HL :
    let t := after (poke (on (cart [0xCB, 0x2E]) fun r => { r with h := 0xC0, l := 0x00 }) 0xC000 0x81)
    (peek t 0xC000, t.regs.f, t.clock) = (0xC0, 0x10, 4) := by decide

theorem test_V139_SWAP_B_clears_C :
    let t := after (on (cart [0xCB, 0x30]) fun r => { r with b := 0xF0, f := 0x10 })
    (t.regs.b, t.regs.f) = (0x0F, 0x00) := by decide

theorem test_V141_SRL_A :
    let t := after (on (cart [0xCB, 0x3F]) fun r => { r with a := 0xFF })
    (t.regs.a, t.regs.f) = (0x7F, 0x10) := by decide

theorem test_V145_BIT_7_HL :
    let t := after (poke (on (cart [0xCB, 0x7E]) fun r => { r with f := 0x00, h := 0xC0, l := 0x00 }) 0xC000 0x00)
    (t.regs.f, t.clock) = (0xA0, 3) := by decide

theorem test_V147_RES_7_HL :
    let t := after (poke (on (cart [0xCB, 0xBE]) fun r => { r with h := 0xC0, l := 0x00 }) 0xC000 0xFF)
    (peek t 0xC000, t.clock) = (0x7F, 4) := by decide

theorem test_V148_SET_3_D :
    let t := after (on (cart [0xCB, 0xDA]) fun r => { r with d := 0x00 })
    (t.regs.d, t.regs.f) = (0x08, 0xB0) := by decide

theorem test_V150_illegal_0xD3 :
    let t := after (cart [0xD3, 0x12])
    (t.regs.pc, t.clock, t.fault) = (0x0101, 0, some (.unimplementedOpcode 0xD3 none)) := by decide

theorem test_V152_no_ROM_opcode_fetch_at_0x0100 :
    let t := after (State.reset)
    (t.regs.pc, t.clock, t.fault) = (0x0100, 0, some (.unmappedRegion 0x0100)) := by decide

theorem test_V153_BIOS_no_ROM_BIT_0_HL_HL_0x0200 :
    let t := after (on (boot [0xCB, 0x46]) fun r => { r with h := 0x02, l := 0x00 })
    (t.regs.pc, t.clock, t.regs.hl, t.fault) = (0x0002, 0, 0x0200, some (.unmappedRegion 0x0200)) := by decide

theorem test_V154_BIOS_no_ROM_LD_A_a16_rolls_back_operands :
    let t := after (boot [0xFA, 0x34, 0x12])
    (t.regs.pc, t.regs.a, t.clock, t.fault) = (0x0001, 0x00, 0, some (.unmappedRegion 0x1234)) := by decide

theorem test_V155_BIOS_no_ROM_CALL_with_SP_in_ROM :
    let t := after (on (boot [0xCD, 0x00, 0x02]) fun r => { r with sp := 0x4000 })
    (t.regs.pc, t.regs.sp, t.clock, t.fault) = (0x0001, 0x4000, 0, some (.unmappedRegion 0x3FFE)) := by decide

theorem test_V156_dispatch_VBlank_and_Timer_lowest_first :
    let t := after ({ (poke (poke (cart [0x00]) 0xFFFF 0x05) 0xFF0F 0x05) with ime := true })
    (t.regs.pc, t.mmu.iflag, t.ime, t.regs.sp, peek t 0xFFFC, peek t 0xFFFD, t.clock) = (0x0040, 0x04, false, 0xFFFC, 0x00, 0x01, 5) := by decide

theorem test_V157_IME_1_but_IE_IF_0 :
    let t := after ({ (poke (poke (cart [0x00]) 0xFFFF 0x01) 0xFF0F 0x02) with ime := true })
    (t.regs.pc, t.clock) = (0x0101, 1) := by decide

theorem test_V158_HALT_with_IME_1_wakes_into_dispatch :
    let t := after ({ (poke (poke (on (cart [0x76, 0x00]) fun r => { r with pc := 0x0101 }) 0xFFFF 0x10) 0xFF0F 0x10) with ime := true, runState := .halted })
    (t.regs.pc, t.runState, peek t 0xFFFC, peek t 0xFFFD, t.mmu.iflag, t.clock) = (0x0060, .running, 0x01, 0x01, 0x00, 5) := by decide

/-! ### Words of the opcode table: decoded, and run as the first instruction after reset -/

/-- R140: JP a16, 24 bits, operand 0x2000. -/
theorem test_table_word_jp : decodeTableWord 24 0x2000C3 = some (.jp_a16 0x2000) ∧
    (after (State.reset.withFetchWord 24 0x2000C3)).regs.pc = 0x2000 := by decide

/-- R141, R144: the CB table's row 0x37, whose bits the table numbers from the byte after the prefix. -/
theorem test_table_word_cb : decodeTableWord 16 0x37 = some .swap_A ∧
    (after (State.reset.withFetchWord 16 0x37)).regs.a = 0x10 := by decide

/-- R140: LD A,d8 with an operand of zeros. -/
theorem test_table_word_ld : decodeTableWord 16 0x3E = some (.ld_A_d8 0) ∧
    (after (State.reset.withFetchWord 16 0x3E)).regs.a = 0 := by decide

/-- R135: an illegal byte. -/
theorem test_table_word_illegal : decodeTableWord 8 0xED = some .illegal_ED ∧
    (after (State.reset.withFetchWord 8 0xED)).fault = some (.unimplementedOpcode 0xED none) := by decide

/-! ### Witnesses: for every obligation with hypotheses, states and operands that meet them, clause by clause

`cart []` has every address mapped. `State.reset` has no ROM, so 0x7FFF is the last address that cannot be read or written and
0x8000 the first that can. `boot []` has a BIOS image and no ROM, so 0x00FF can be read but not written. -/

/-- A state with HL as given. -/
def atHL (s : State) (h l : Byte) : State := on s fun r => { r with h := h, l := l }

/-- A state with SP as given. -/
def atSP (s : State) (v : Word) : State := on s fun r => { r with sp := v }

theorem test_witness_AddWritesSumAndFlags :
    (poke (atHL (cart []) 0xC0 0x00) 0xC000 0xFF).load 0xC000 = .ok 0xFF ∧ (atHL (cart []) 0xC0 0x00).regs.hl = 0xC000 ∧
    (atHL State.reset 0x7F 0xFF).load (atHL State.reset 0x7F 0xFF).regs.hl = .error (.unmappedRegion 0x7FFF) ∧
    (cart []).regs.get8 .e = 0xD8 := by decide

theorem test_witness_SubWritesDifferenceAndFlags :
    (atHL State.reset 0x80 0x00).load (atHL State.reset 0x80 0x00).regs.hl = .ok 0 ∧
    (atHL State.reset 0x00 0x00).load (atHL State.reset 0x00 0x00).regs.hl = .error (.unmappedRegion 0) ∧
    State.reset.regs.get8 .a = 0x01 := by decide

theorem test_witness_AdcAndSbcTakeTheCarryIn :
    (atHL State.reset 0xFF 0xFF).load (atHL State.reset 0xFF 0xFF).regs.hl = .ok 0 ∧
    (atHL State.reset 0x7F 0xFF).load (atHL State.reset 0x7F 0xFF).regs.hl = .error (.unmappedRegion 0x7FFF) ∧
    State.reset.regs.get8 .l = 0x4D ∧ State.reset.regs.f.toNat / 0x10 % 2 = 1 := by decide

/-- The three alternatives of the hypothesis, with A = 0x5A and the operand 0x3F. -/
theorem test_witness_AndXorOrWriteA :
    let a : Byte := (on State.reset fun r => { r with a := 0x5A }).regs.a
    (∀ i < 8, (0x1A : Byte).getLsbD i = (a.getLsbD i && (0x3F : Byte).getLsbD i)) ∧
    (∀ i < 8, (0x65 : Byte).getLsbD i = (a.getLsbD i ^^ (0x3F : Byte).getLsbD i)) ∧
    (∀ i < 8, (0x7F : Byte).getLsbD i = (a.getLsbD i || (0x3F : Byte).getLsbD i)) ∧
    (on State.reset fun r => { r with a := 0x5A, l := 0x3F }).regs.get8 .l = 0x3F ∧
    (poke (atHL State.reset 0x80 0x00) 0x8000 0x3F).load (atHL State.reset 0x80 0x00).regs.hl = .ok 0x3F ∧
    (atHL State.reset 0x7F 0xFF).load (atHL State.reset 0x7F 0xFF).regs.hl = .error (.unmappedRegion 0x7FFF) := by decide

theorem test_witness_CpSetsFlagsOnly :
    (atHL State.reset 0x80 0x00).load (atHL State.reset 0x80 0x00).regs.hl = .ok 0 ∧
    (atHL State.reset 0x7F 0xFF).load (atHL State.reset 0x7F 0xFF).regs.hl = .error (.unmappedRegion 0x7FFF) ∧
    State.reset.regs.get8 .c = 0x13 := by decide

/-- A read-modify-write operand: readable and writable; unreadable; readable under the overlay but not writable. -/
theorem test_witness_IncAndDecByteKeepCarry :
    let ok := atHL State.reset 0x80 0x00
    let hole := atHL State.reset 0x7F 0xFF
    let shadow := atHL (boot []) 0x00 0xFF
    State.reset.regs.get8 .b = 0 ∧
    (ok.load ok.regs.hl = .ok 0 ∧ ok.mmu.writable ok.regs.hl) ∧
    hole.load hole.regs.hl = .error (.unmappedRegion 0x7FFF) ∧
    (shadow.load shadow.regs.hl = .ok 0 ∧ ¬ shadow.mmu.writable shadow.regs.hl) := by
  simp only [Mmu.writable]; decide

theorem test_witness_DaaMakesDecimalSumsAndDifferences :
    let bcd (n : Nat) : Byte := BitVec.ofNat 8 (n / 10 * 16 + n % 10)
    let s := on State.reset fun r => { r with a := 0x99, b := 0x99 }
    let u := on State.reset fun r => { r with a := 0x00, b := 0x99 }
    (99 < 100 ∧ s.regs.a = bcd 99 ∧ s.regs.b = bcd 99) ∧ (0 < 100 ∧ u.regs.a = bcd 0 ∧ u.regs.b = bcd 99) := by decide

theorem test_witness_AbsoluteJumps :
    condHolds State.reset.regs.f .z = true ∧ condHolds State.reset.regs.f .c = true ∧
    condHolds State.reset.regs.f .nz = false ∧ condHolds State.reset.regs.f .nc = false := by decide

theorem test_witness_RelativeJumps :
    condHolds (on State.reset fun r => { r with f := 0x00 }).regs.f .nz = true ∧
    condHolds (on State.reset fun r => { r with f := 0x00 }).regs.f .nc = true ∧
    condHolds (on State.reset fun r => { r with f := 0x00 }).regs.f .z = false ∧
    condHolds (on State.reset fun r => { r with f := 0x00 }).regs.f .c = false := by decide

/-- A push whose two bytes are stored; one whose low byte falls in the hole; one whose high byte does, by the wrap. -/
theorem test_witness_CallsPushTheReturnAddress :
    let ok := (atSP State.reset 0x8002).mmu
    (ok.writable (0x8002 - 2) ∧ ok.writable (0x8002 - 2 + 1)) ∧ condHolds State.reset.regs.f .z = true ∧
    condHolds State.reset.regs.f .nz = false ∧
    ¬ ok.writable ((0x8001 : Word) - 2) ∧ (ok.writable ((0x0001 : Word) - 2) ∧ ¬ ok.writable ((0x0001 : Word) - 2 + 1)) := by
  simp only [Mmu.writable]; decide

/-- Both bytes read; the first in the hole; the second in the hole, by the wrap. -/
theorem test_witness_ReturnsPopPc :
    let ok := atSP State.reset 0x8000
    let low := atSP State.reset 0x7FFF
    let high := atSP State.reset 0xFFFF
    (ok.load ok.regs.sp = .ok 0 ∧ ok.load (ok.regs.sp + 1) = .ok 0) ∧
    condHolds ok.regs.f .z = true ∧ condHolds ok.regs.f .nz = false ∧
    low.load low.regs.sp = .error (.unmappedRegion 0x7FFF) ∧
    (high.load high.regs.sp = .ok 0 ∧ high.load (high.regs.sp + 1) = .error (.unmappedRegion 0)) := by decide

theorem test_witness_RetiPopsPcAndSetsIme :
    let ok := poke (atSP State.reset 0xFFFD) 0xFFFE 0x12
    let low := atSP State.reset 0x0000
    let high := atSP State.reset 0xFFFF
    (ok.load ok.regs.sp = .ok 0 ∧ ok.load (ok.regs.sp + 1) = .ok 0x12) ∧
    low.load low.regs.sp = .error (.unmappedRegion 0) ∧
    (high.load high.regs.sp = .ok 0 ∧ high.load (high.regs.sp + 1) = .error (.unmappedRegion 0)) := by decide

theorem test_witness_RstCallsItsFixedAddress :
    let m := State.reset.mmu
    (m.writable ((0xFFFE : Word) - 2) ∧ m.writable ((0xFFFE : Word) - 2 + 1)) ∧ ¬ m.writable ((0x8000 : Word) - 2) ∧
    (m.writable ((0x0001 : Word) - 2) ∧ ¬ m.writable ((0x0001 : Word) - 2 + 1)) := by
  simp only [Mmu.writable]; decide

theorem test_witness_PushStoresThePair :
    let m := State.reset.mmu
    (m.writable ((0x0000 : Word) - 2) ∧ m.writable ((0x0000 : Word) - 2 + 1)) ∧ ¬ m.writable ((0x0002 : Word) - 2) ∧
    (m.writable ((0x0001 : Word) - 2) ∧ ¬ m.writable ((0x0001 : Word) - 2 + 1)) := by
  simp only [Mmu.writable]; decide

theorem test_witness_PopLoadsThePair :
    let ok := atSP State.reset 0xFFFE
    let low := atSP State.reset 0x7FFE
    let high := atSP State.reset 0xFFFF
    (ok.load ok.regs.sp = .ok 0 ∧ ok.load (ok.regs.sp + 1) = .ok 0) ∧
    low.load low.regs.sp = .error (.unmappedRegion 0x7FFE) ∧
    (high.load high.regs.sp = .ok 0 ∧ high.load (high.regs.sp + 1) = .error (.unmappedRegion 0)) := by decide

/-- The four bounds of the two ranges. -/
theorem test_witness_StackRoundTrips :
    ((0x8002 : Word) - 2).toNat = 0x8000 ∧ ((0xFEA0 : Word) - 2).toNat = 0xFE9E ∧ ((0xFF02 : Word) - 2).toNat = 0xFF00 ∧
    ((0x0000 : Word) - 2).toNat = 0xFFFE ∧ State.reset.regs.f &&& 0x0F = 0 := by
  exact ⟨rfl, rfl, rfl, rfl, by decide⟩

theorem test_witness_LoadsFromMemory :
    State.reset.load 0x8000 = .ok 0 ∧ State.reset.load 0xFEA0 = .ok 0 ∧ State.reset.load 0xFFFF = .ok 0 ∧
    State.reset.load 0x7FFF = .error (.unmappedRegion 0x7FFF) ∧
    (atHL State.reset 0x80 0x00).regs.hl = 0x8000 ∧ (atHL State.reset 0x7F 0xFF).regs.hl = 0x7FFF := by decide

theorem test_witness_StoresToMemory :
    State.reset.mmu.writable 0x8000 ∧ State.reset.mmu.writable 0xFFFF ∧ ¬ State.reset.mmu.writable 0x7FFF ∧
    ¬ State.reset.mmu.writable 0x0000 := by
  simp only [Mmu.writable]; decide

theorem test_witness_AccessesThatStepHl :
    let top := atHL State.reset 0xFF 0xFF
    let hole := atHL State.reset 0x7F 0xFF
    top.mmu.writable top.regs.hl ∧ ¬ hole.mmu.writable hole.regs.hl ∧ top.load top.regs.hl = .ok 0 ∧
    hole.load hole.regs.hl = .error (.unmappedRegion 0x7FFF) := by
  simp only [Mmu.writable]; decide

theorem test_witness_StoreSpAtAddress :
    let m := State.reset.mmu
    (m.writable 0x8000 ∧ m.writable (0x8000 + 1)) ∧ ¬ m.writable 0x7FFF ∧ (m.writable 0xFFFF ∧ ¬ m.writable (0xFFFF + 1)) := by
  simp only [Mmu.writable]; decide

theorem test_witness_CbShiftsAndRotates :
    let ok := atHL State.reset 0xFF 0xFF
    let hole := atHL State.reset 0x7F 0xFF
    let shadow := atHL (boot []) 0x00 0x00
    State.reset.regs.get8 .h = 0x01 ∧
    (ok.load ok.regs.hl = .ok 0 ∧ ok.mmu.writable ok.regs.hl) ∧
    hole.load hole.regs.hl = .error (.unmappedRegion 0x7FFF) ∧
    (shadow.load shadow.regs.hl = .ok 0 ∧ ¬ shadow.mmu.writable shadow.regs.hl) := by
  simp only [Mmu.writable]; decide

theorem test_witness_CbBitTestsOneBit :
    (atHL (boot []) 0x00 0xFF).load (atHL (boot []) 0x00 0xFF).regs.hl = .ok 0 ∧
    (atHL (boot []) 0x01 0x00).load (atHL (boot []) 0x01 0x00).regs.hl = .error (.unmappedRegion 0x0100) ∧
    State.reset.regs.get8 .a = 0x01 := by decide

/-- SET 7 of 0x00 and RES 0 of 0xFF, and the memory operand's clauses. -/
theorem test_witness_CbResAndSetWriteOneBit :
    ((0x80 : Byte).getLsbD Idx8.i7.num = true ∧ ∀ i < 8, i ≠ Idx8.i7.num → (0x80 : Byte).getLsbD i = (0x00 : Byte).getLsbD i) ∧
    ((0xFE : Byte).getLsbD Idx8.i0.num = false ∧ ∀ i < 8, i ≠ Idx8.i0.num → (0xFE : Byte).getLsbD i = (0xFF : Byte).getLsbD i) ∧
    State.reset.regs.get8 .b = 0x00 ∧ (on State.reset fun r => { r with a := 0xFF }).regs.get8 .a = 0xFF ∧
    (let ok := atHL State.reset 0x80 0x00
     let hole := atHL State.reset 0x7F 0xFF
     let shadow := atHL (boot []) 0x00 0xFF
     (ok.load ok.regs.hl = .ok 0 ∧ ok.mmu.writable ok.regs.hl) ∧
     hole.load hole.regs.hl = .error (.unmappedRegion 0x7FFF) ∧
     (shadow.load shadow.regs.hl = .ok 0 ∧ ¬ shadow.mmu.writable shadow.regs.hl)) := by
  simp only [Mmu.writable]; decide

/-- The last byte of each quarter of the CB table, and a state in which each completes. -/
theorem test_witness_CbPrefixRunsTheCbTable :
    (0x3F : Byte).toNat = 8 * ShiftOp.srl.code + (Opnd8.reg .a).code ∧
    (0x7F : Byte).toNat = 0x40 + 8 * Idx8.i7.num + (Opnd8.reg .a).code ∧
    (0xBF : Byte).toNat = 0x80 + 8 * Idx8.i7.num + (Opnd8.reg .a).code ∧
    (0xC6 : Byte).toNat = 0xC0 + 8 * Idx8.i0.num + Opnd8.mHL.code ∧
    (let s := atHL State.reset 0x80 0x00
     s.fault = none ∧ s.load s.regs.hl = .ok 0 ∧ s.mmu.writable s.regs.hl) := by
  simp only [Mmu.writable]; decide

theorem test_witness_DecodeInvertsEncode : (Instr.jp_a16 0x1234).wellFormed = true ∧ Instr.bit_7_mHL.wellFormed = true := by
  decide

theorem test_witness_EncodeInvertsDecode :
    decode [0xC3, 0x34, 0x12, 0x00] = .ok (.jp_a16 0x1234, [0x00]) ∧ decode [0xC3, 0x34] = .error (.truncated 0xC3) ∧
    decode [] = .error .empty := by decide

/-- JP 0x2000 in the ROM, with interrupts off; and with IME 1 and nothing pending. -/
theorem test_witness_StepRunsTheDecodedInstruction :
    let s := cart [0xC3, 0x00, 0x20]
    (Instr.jp_a16 0x2000).wellFormed = true ∧
    (∀ k (h : k < (encode (.jp_a16 0x2000)).length), s.load (s.regs.pc + BitVec.ofNat 16 k) = .ok (encode (.jp_a16 0x2000))[k]) ∧
    s.fault = none ∧ s.runState = .running ∧ (s.ime = true → s.pending = 0) ∧
    (let t : State := { s with ime := true, eiPending := true }
     t.ime = true → t.pending = 0) := by decide

/-- No ROM: the opcode at the last address of the hole; an operand byte after 0xFFFF; two after 0xFFFE. -/
theorem test_witness_FetchFaults :
    let first := on State.reset fun r => { r with pc := 0x7FFF }
    let second := poke (on State.reset fun r => { r with pc := 0xFFFF }) 0xFFFF 0x06
    let third := poke (on State.reset fun r => { r with pc := 0xFFFE }) 0xFFFE 0x01
    (first.fault = none ∧ first.runState = .running ∧ (first.ime = true → first.pending = 0) ∧ ¬ first.mmu.readable 0x7FFF) ∧
    (second.load 0xFFFF = .ok 0x06 ∧ 1 < opcodeLength 0x06 ∧ ¬ second.mmu.readable (0xFFFF + 1) ∧
      second.mmu.readable (0xFFFF + 0)) ∧
    (third.load 0xFFFE = .ok 0x01 ∧ 2 < opcodeLength 0x01 ∧ ¬ third.mmu.readable (0xFFFE + 2) ∧
      ∀ j < 2, third.mmu.readable (0xFFFE + BitVec.ofNat 16 j)) := by
  simp only [Mmu.readable]; decide

theorem test_witness_EveryInstructionCompletes :
    (cart []).mmu.mapped ∧ (cart []).fault = none ∧ ∀ op : IllegalByte, Instr.nop ≠ .mkIllegal op := by
  exact ⟨⟨by decide, by decide⟩, by decide, fun op => by cases op <;> decide⟩

theorem test_witness_InstructionsThatKeepFlagsOrMemory :
    exec .res_0_A (cart []) = .next (((cart []).passed 2 2).set8 .a 0) ∧ Instr.res_0_A.form = .res .i0 (.reg .a) ∧
    exec .xor_A (cart []) = .next (((cart []).passed 1 1).set8 .a 0 |>.withF true false false false) := by
  refine ⟨rfl, rfl, rfl⟩

theorem test_witness_LatchesChangeOnlyByTheirInstructions :
    exec .halt (cart []) = .next { (cart []).passed 1 1 with runState := .halted } ∧ RunState.halted ≠ (cart []).runState ∧
    exec .ei (cart []) = .next { (cart []).passed 1 1 with eiPending := true } ∧ true ≠ (cart []).eiPending ∧
    exec .di { cart [] with ime := true } = .next { (cart []).passed 1 1 with ime := false } ∧
    false ≠ ({ cart [] with ime := true } : State).ime := by
  refine ⟨rfl, by decide, rfl, by decide, rfl, by decide⟩

theorem test_witness_StepKeepsTheInvariant :
    (cart [0x3C]).Inv ∧ step (cart [0x3C]) = .next (after (cart [0x3C])) := by
  exact ⟨⟨by decide, by decide, by decide⟩, step_after rfl⟩

theorem test_witness_ResetHasTheInvariant :
    (cart [0x3C]).mmu.wf = true ∧ State.reset.Inv ∧ (∃ t, State.reset.loadRom (List.replicate 32768 0xFF) = .ok t) ∧
    ∃ t, State.reset.setBios (List.replicate 256 0xFF) = .ok t := by
  refine ⟨by decide, ⟨by decide, by decide, by decide⟩, ⟨_, if_pos ?_⟩, ⟨_, if_pos ?_⟩⟩ <;> exact List.length_replicate

/-- A step that adds to the clock; a Stopped one and a faulting one, which do not. -/
theorem test_witness_StepKeepsFlagNibbleAndClock :
    (step (cart []) = .next (after (cart [])) ∧ (cart []).regs.f.toNat % 0x10 = 0 ∧
      (cart []).regs.af.toNat = (cart []).regs.a.toNat * 0x100 + ((cart []).regs.f &&& 0xF0).toNat ∧
      (cart []).regs.bc.toNat = (cart []).regs.b.toNat * 0x100 + (cart []).regs.c.toNat ∧
      (cart []).regs.de.toNat = (cart []).regs.d.toNat * 0x100 + (cart []).regs.e.toNat ∧
      (cart []).regs.hl.toNat = (cart []).regs.h.toNat * 0x100 + (cart []).regs.l.toNat) ∧
    (let s : State := { cart [] with runState := .stopped }
     step s = .next (after s) ∧ (after s).clock = s.clock) ∧
    (step (cart [0xD3]) = .next (after (cart [0xD3])) ∧ (after (cart [0xD3])).clock = (cart [0xD3]).clock) := by
  exact ⟨⟨step_after rfl, by decide⟩, ⟨step_after rfl, by decide⟩, step_after rfl, by decide⟩

/-- The host's register write masks F (R32, R501). The T-cycle count is four times the clock (R521). -/
theorem test_host_registers_and_t_cycles :
    ((cart []).hostSetRegs { Regs.zero with a := 0x12, f := 0xFF }).regs = { Regs.zero with a := 0x12, f := 0xF0 } ∧
    ((cart []).tick 3).tCycles = 12 := by decide

/-- Both origins of a fault. -/
theorem test_witness_FaultsArePrecise :
    (step (cart [0xFD]) = .next (after (cart [0xFD])) ∧ (after (cart [0xFD])).fault = some (.unimplementedOpcode 0xFD none)) ∧
    (step State.reset = .next (after State.reset) ∧ (after State.reset).fault = some (.unmappedRegion 0x0100)) := by
  exact ⟨⟨step_after rfl, by decide⟩, step_after rfl, by decide⟩

theorem test_witness_FaultsAreSticky :
    (after (cart [0xD3])).fault = some (.unimplementedOpcode 0xD3 none) ∧ (cart []).fault = none := by decide

/-- A run of one step that clears inBIOS: LD (0xFF50),A in the BIOS. -/
theorem test_witness_RunsNeverRaiseTheBiosLatch :
    Reaches (boot [0xEA, 0x50, 0xFF]) (after (boot [0xEA, 0x50, 0xFF])) ∧ (boot [0xEA, 0x50, 0xFF]).mmu.inBios = true ∧
    (after (boot [0xEA, 0x50, 0xFF])).mmu.inBios = false ∧ Reaches (cart []) (after (cart [])) ∧
    (cart []).mmu.inBios = false := by
  exact ⟨.tail (.refl _) (step_after rfl), by decide, by decide, .tail (.refl _) (step_after rfl), by decide⟩

theorem test_witness_MappedRunsFaultOnlyOnIllegalBytes :
    (cart [0xE3]).mmu.mapped ∧ (cart [0xE3]).fault = none ∧ Reaches (cart [0xE3]) (after (cart [0xE3])) ∧
    (after (cart [0xE3])).fault = some (.unimplementedOpcode 0xE3 none) := by
  exact ⟨⟨by decide, by decide⟩, by decide, .tail (.refl _) (step_after rfl), by decide⟩

theorem test_witness_StepIgnoresTheClock :
    step (cart []) = .next (after (cart [])) ∧
    step (after (cart [0xD3])) = .refused (.faulted (.unimplementedOpcode 0xD3 none)) := by
  exact ⟨step_after rfl, step_faulted (by decide)⟩

/-- The first and the last interrupt, a push that is stored, and the two that are not. -/
theorem test_witness_InterruptDispatch :
    let s : State := { poke (poke State.reset 0xFFFF 0x1F) 0xFF0F 0x11 with ime := true, runState := .halted }
    let t : State := { poke (poke State.reset 0xFFFF 0x10) 0xFF0F 0x1F with ime := true }
    (s.fault = none ∧ s.runState ≠ .stopped ∧ s.ime = true ∧ (s.mmu.ie &&& s.mmu.iflag).getLsbD 0 = true) ∧
    (t.fault = none ∧ t.runState ≠ .stopped ∧ t.ime = true ∧ (t.mmu.ie &&& t.mmu.iflag).getLsbD 4 = true ∧
      ∀ j < 4, (t.mmu.ie &&& t.mmu.iflag).getLsbD j = false) ∧
    (s.mmu.writable ((0x8002 : Word) - 2) ∧ s.mmu.writable ((0x8002 : Word) - 2 + 1)) ∧
    ¬ s.mmu.writable ((0x8001 : Word) - 2) ∧
    (s.mmu.writable ((0x0001 : Word) - 2) ∧ ¬ s.mmu.writable ((0x0001 : Word) - 2 + 1)) := by
  simp only [Mmu.writable]; decide

theorem test_witness_HaltedAndStoppedSteps :
    let idle : State := { poke (poke (cart []) 0xFFFF 0xFF) 0xFF0F 0xE0 with runState := .halted }
    let woken : State := { poke (poke (cart []) 0xFFFF 0x10) 0xFF0F 0x10 with runState := .halted }
    (idle.fault = none ∧ (idle.mmu.ie &&& idle.mmu.iflag).toNat % 0x20 = 0) ∧
    (woken.fault = none ∧ (woken.mmu.ie &&& woken.mmu.iflag).toNat % 0x20 ≠ 0 ∧ woken.ime = false) ∧
    ({ cart [] with runState := .stopped } : State).fault = none := by decide

/-- EI, then LD A,0x0F; and EI, then DI. -/
theorem test_witness_EiTakesEffectOneInstructionLater :
    let s := cart [0xFB, 0x3E, 0x0F]
    let u := cart [0xFB, 0xF3]
    (s.fault = none ∧ s.runState = .running ∧ s.ime = false ∧ s.eiPending = false ∧ s.load s.regs.pc = .ok 0xFB ∧
      (Instr.ld_A_d8 0x0F).wellFormed = true ∧
      ∀ k (h : k < (encode (.ld_A_d8 0x0F)).length),
        s.load (s.regs.pc + 1 + BitVec.ofNat 16 k) = .ok (encode (.ld_A_d8 0x0F))[k]) ∧
    (u.load u.regs.pc = .ok 0xFB ∧ ∀ k (h : k < (encode .di).length),
      u.load (u.regs.pc + 1 + BitVec.ofNat 16 k) = .ok (encode .di)[k]) := by decide

theorem test_witness_AccessesFailOnlyWithoutABuffer :
    (boot []).mmu.readable 0x00FF ∧ ¬ (boot []).mmu.readable 0x0100 ∧ (boot []).mmu.writable 0x8000 ∧
    ¬ (boot []).mmu.writable 0x00FF := by
  simp only [Mmu.readable, Mmu.writable]; decide

/-- Each clause at a bound of its range. -/
theorem test_witness_MemoryLaws :
    (∃ m, (cart []).mmu.writeByte 0xFE9F 1 = .ok m) ∧ (∃ m, (cart []).mmu.writeByte 0xFF00 1 = .ok m) ∧
    (∃ m, (cart []).mmu.writeByte 0xFEA0 1 = .ok m) ∧ (∃ m, (cart []).mmu.writeByte 0xFEFF 1 = .ok m) ∧
    (let b := { (cart []).mmu with bios := some [], inBios := true }
     (∃ m, b.writeByte 0x00FF 1 = .ok m) ∧ b.inBios = true ∧ ∃ m, b.writeWord 0x0100 1 = .ok m) ∧
    (∃ m, (cart []).mmu.writeWord 0x0000 1 = .ok m) ∧ (cart []).mmu.inBios = false ∧
    (∃ m, (cart []).mmu.writeWord 0xFE9E 1 = .ok m) ∧ (∃ m, (cart []).mmu.writeWord 0xFF00 1 = .ok m) ∧
    (∃ m, (cart []).mmu.writeWord 0xFFFE 1 = .ok m) ∧
    ((∃ m, (cart []).mmu.writeWord 0xFFFF 1 = .ok m) ∧ (0xFFFF + 1 : Word).toNat = 0) ∧
    (∃ m, (cart []).mmu.writeWord 0xFE9F 1 = .ok m) ∧ (∃ m, (cart []).mmu.writeWord 0xFEFF 1 = .ok m) ∧
    (let b := { (cart []).mmu with bios := some [], inBios := true }
     (∃ m, b.writeWord 0x00FF 1 = .ok m) ∧ b.readByte 0x00FF = .ok 0 ∧
     (∃ m, b.writeWord 0xFFFF 1 = .ok m) ∧ b.readByte (0xFFFF + 1) = .ok 0) ∧
    ((cart []).mmu.readByte 0xFFFF = .ok 0 ∧ (cart []).mmu.readByte (0xFFFF + 1) = .ok 0) := by
  refine ⟨⟨_, rfl⟩, ⟨_, rfl⟩, ⟨_, rfl⟩, ⟨_, rfl⟩, ⟨⟨_, rfl⟩, rfl, ⟨_, rfl⟩⟩, ⟨_, rfl⟩, rfl, ⟨_, rfl⟩, ⟨_, rfl⟩, ⟨_, rfl⟩, ⟨⟨_, rfl⟩, rfl⟩, ⟨_, rfl⟩,
    ⟨_, rfl⟩, ⟨⟨_, rfl⟩, rfl, ⟨_, rfl⟩, rfl⟩, rfl, rfl⟩

/-- R98: a word across each edge of the unused range loses the byte that falls in it. -/
theorem test_word_law_fails_at_the_unused_range :
    ((cart []).mmu.writeWord 0xFE9F 0x1234).toOption.map (·.readWord 0xFE9F) = some (.ok 0x0034) ∧
    ((cart []).mmu.writeWord 0xFEFF 0x1234).toOption.map (·.readWord 0xFEFF) = some (.ok 0x1200) ∧
    ((cart []).mmu.writeWord 0xFFFF 0x1234).toOption.map (·.readWord 0xFFFF) = some (.ok 0x1234) := by
  exact ⟨rfl, rfl, rfl⟩

/-- Both ends of the mirror, one by one. -/
theorem test_witness_MirrorReachesWorkingRam : 0x1DFF ≤ 0x1DFF ∧
    peek (poke (cart []) 0xDDFF 0x7E) (BitVec.ofNat 16 (0xE000 + 0x1DFF)) = 0x7E ∧
    peek (poke (cart []) 0xDE00 0x7E) 0xFE00 = 0x00 := by decide

theorem test_witness_WritesChangeOneByte :
    (∃ m, (boot []).mmu.writeByte 0xFF50 0x00 = .ok m) ∧ (∃ m, (cart []).mmu.writeByte 0x7FFF 0x01 = .ok m) ∧
    (cart []).mmu.rom = some [] := by
  exact ⟨⟨_, rfl⟩, ⟨_, rfl⟩, rfl⟩

theorem test_witness_PairsAreViewsOfTheirHalves :
    StackPair.hl ≠ .af ∧ (0xABF0 : Word).toNat % 0x10 = 0 ∧ Reg8.a ≠ .l := by decide

theorem test_witness_ResetSetsTheResetState : (boot []).mmu.bios.isSome = true ∧ (cart []).mmu.bios = none := by decide

theorem test_witness_ImagesAreLoadedWhole :
    (List.replicate 32767 (0 : Byte)).length ≠ 32768 ∧ (List.replicate 255 (0 : Byte)).length ≠ 256 ∧
    (List.replicate 32768 (0 : Byte)).length = 32768 ∧ (List.replicate 256 (0 : Byte)).length = 256 := by
  simp only [List.length_replicate]; decide

/-- A step of each kind of answer, and of a run that returns and one that goes on: NOP to the clock 1 and to the clock 2, a Stopped
core, an illegal byte, a latched fault. -/
theorem test_witness_RunEndsWithACause :
    (step (cart []) = .next (after (cart [])) ∧ (after (cart [])).fault = none ∧ (cart []).hostStep.2 = .done 1 ∧
      1 ≤ (cart []).hostStep.1.clock ∧ ¬ 2 ≤ (cart []).hostStep.1.clock ∧ (cart []).hostStep.1.runState ≠ .stopped) ∧
    { cart [] with runState := .stopped }.hostStep.1.runState = .stopped ∧
    (step (cart [0xD3]) = .next (after (cart [0xD3])) ∧
      (after (cart [0xD3])).fault = some (.unimplementedOpcode 0xD3 none)) := by
  exact ⟨⟨step_after rfl, by decide, by decide, by decide, by decide, by decide⟩, by decide, step_after rfl, by decide⟩

end Sys2Proof.Tests
end

section
/-! O43. The register rules of R50 say no more than that F's low nibble is zero (the ranges and the views are the types' own), and
what each way a step can end does to that nibble and to the clock. -/

namespace Sys2Proof.Machine

/-! ### The rules of R50 on a register file -/

/-- R50's rules on a register file: F's low nibble is zero, every register is in its range, and each pair is its two halves, AF
with the high nibble of F. -/
def Regs.MeetsR50 (r : Regs) : Prop :=
  r.f.toNat % 0x10 = 0 ∧ (∀ x, (r.get8 x).toNat ≤ 0xFF) ∧ r.sp.toNat ≤ 0xFFFF ∧ r.pc.toNat ≤ 0xFFFF ∧
    r.af.toNat = r.a.toNat * 0x100 + (r.f &&& 0xF0).toNat ∧ r.bc.toNat = r.b.toNat * 0x100 + r.c.toNat ∧
    r.de.toNat = r.d.toNat * 0x100 + r.e.toNat ∧ r.hl.toNat = r.h.toNat * 0x100 + r.l.toNat

/-- R33: a pair, as a number. -/
theorem toNat_append_byte (hi lo : Byte) : (hi ++ lo : Word).toNat = hi.toNat * 0x100 + lo.toNat := by
  rw [append_eq_ofNat, BitVec.toNat_ofNat]
  exact Nat.mod_eq_of_lt (by have := hi.isLt; have := lo.isLt; omega)

theorem toNat_mod_16_eq_zero_iff (f : Byte) : f.toNat % 0x10 = 0 ↔ f &&& 0x0F = 0 := by
  revert f; decide

theorem and_F0_eq_self {f : Byte} (h : f &&& 0x0F = 0) : f &&& 0xF0 = f := by
  revert f; decide

/-- Only the flag nibble can break the rules of R50. -/
theorem Regs.meetsR50_iff (r : Regs) : r.MeetsR50 ↔ r.f &&& 0x0F = 0 := by
  constructor
  · rintro ⟨hf, -⟩
    exact (toNat_mod_16_eq_zero_iff r.f).1 hf
  · intro hf
    have haf : r.af.toNat = r.a.toNat * 0x100 + (r.f &&& 0xF0).toNat := by
      rw [and_F0_eq_self hf]; exact toNat_append_byte ..
    exact ⟨(toNat_mod_16_eq_zero_iff r.f).2 hf, fun x => Nat.le_of_lt_succ (r.get8 x).isLt, Nat.le_of_lt_succ r.sp.isLt,
      Nat.le_of_lt_succ r.pc.isLt, haf, toNat_append_byte .., toNat_append_byte .., toNat_append_byte ..⟩

/-- R561, R562: both reset values of F have a clear low nibble. -/
theorem State.hostReset_f_low (s : State) : s.hostReset.regs.f &&& 0x0F = 0 := by
  show (if s.mmu.bios.isSome then Regs.zero else Regs.postBios).f &&& 0x0F = 0
  split <;> decide

/-! ### What a step does to F's low nibble and to the clock -/

/-- R32, R50: no step sets a bit of F's low nibble. -/
theorem StepEnd.f_low {s t : State} (h : StepEnd s t) (hs : s.regs.f &&& 0x0F = 0) : t.regs.f &&& 0x0F = 0 := by
  cases h with
  | stopped => exact hs
  | idle => exact hs
  | faulted => exact hs
  | interrupt u _ _ _ hd =>
    obtain ⟨-, -, -, -, -, hregs, -⟩ := State.dispatch_ok hd
    simpa [hregs] using hs
  | ran i u _ _ _ _ he => rw [settle_regs]; exact he.low hs

/-- R40, R131, R325, R500: the clock moves on in every step but a Stopped one and one that latches a fault, and there it stands
still. -/
theorem StepEnd.clock {s t : State} (h : StepEnd s t) :
    s.clock < t.clock ∨ (t.clock = s.clock ∧ (s.runState = .stopped ∨ t.fault ≠ none)) := by
  cases h with
  | stopped hr => exact .inr ⟨rfl, .inl hr⟩
  | idle => exact .inl (Nat.lt_succ_self _)
  | faulted => exact .inr ⟨rfl, .inr (by simp)⟩
  | interrupt u _ _ _ hd =>
    obtain ⟨-, hclock, -⟩ := State.dispatch_ok hd
    left
    rw [State.tick_clock, hclock, State.awake_clock]
    omega
  | ran i u _ _ _ _ he => rw [settle_clock]; exact .inl he.clock.1

/-- Settles O43: the rules of R50 come down to F's low nibble (`Regs.meetsR50_iff`), which stays zero
however a step ends (`StepEnd.f_low`); `StepEnd.clock` is the clock's part. -/
theorem stepKeepsFlagNibbleAndClock : Obligations.StepKeepsFlagNibbleAndClock := by
  refine ⟨fun s t hstep => ?_, fun s => (Regs.meetsR50_iff _).2 s.hostReset_f_low⟩
  obtain ⟨-, hend⟩ := step_cases hstep
  have hregs : s.regs.MeetsR50 → t.regs.MeetsR50 := by
    simpa only [Regs.meetsR50_iff] using hend.f_low
  obtain hlt | ⟨heq, hstill⟩ := hend.clock
  · exact ⟨hregs, hlt.le, fun heq => absurd heq hlt.ne'⟩
  · exact ⟨hregs, heq.ge, fun _ => hstill⟩

end Sys2Proof.Machine
end

section
/-! O1, O2, O4, O5, O6, O7, O9. The 8-bit arithmetic and logic of 40_alu8.md: what each shared body leaves, with PC, the clock and
F written as the claims write them, and each operation's result and flags on numbers. -/

namespace Sys2Proof.Machine

/-! ### The state a body leaves, in the words of the claims -/

/-- R35: a write of the flags, by the byte F is. -/
theorem State.setFlags_eq_withF (s : State) (x : Flags) : s.setFlags x = s.withF x.z x.n x.h x.c := by
  simp only [State.setFlags, State.withF, Flags.pack_eq_flagByte]

theorem State.advance_setFlags_tick (s : State) (len n : Nat) (x : Flags) :
    ((s.advance len).setFlags x).tick n = (s.passed len n).withF x.z x.n x.h x.c := by
  rw [State.setFlags_eq_withF]; rfl

theorem State.advance_set8_setFlags_tick (s : State) (len n : Nat) (r : Reg8) (v : Byte) (x : Flags) :
    (((s.advance len).set8 r v).setFlags x).tick n = ((s.passed len n).set8 r v).withF x.z x.n x.h x.c := by
  rw [State.setFlags_eq_withF]; rfl

/-- R38: fetching an instruction changes no operand. -/
@[simp] theorem State.readOpnd_advance (s : State) (n : Nat) (o : Opnd8) : (s.advance n).readOpnd o = s.readOpnd o := by
  cases o with
  | reg r => cases r <;> rfl
  | mHL => rfl

theorem State.readOpnd_reg {s : State} {r : Reg8} {v : Byte} (h : s.regs.get8 r = v) : s.readOpnd (.reg r) = .ok v := by
  rw [← h]; rfl

/-! ### The ALU rows (R201 to R224) -/

/-- R129, R201 to R224: the opcode of an ALU row, from the code of its operation and of its operand. -/
theorem encode_mkAlu (op : AluOp) (o : Opnd8) : encode (.mkAlu op o) = [BitVec.ofNat 8 (0x80 + 8 * op.code + o.code)] := by
  rw [show Instr.mkAlu op o = (Form.alu op o).instr from rfl, encode_instr, Nat.mul_comm]
  rfl

theorem encode_mkAluD8 (op : AluOp) (v : Byte) : encode (.mkAluD8 op v) = [BitVec.ofNat 8 (0xC6 + 8 * op.code), v] := by
  rw [show Instr.mkAluD8 op v = (Form.aluD8 op v).instr from rfl, encode_instr]
  cases op <;> rfl

theorem exec_mkAlu (op : AluOp) (o : Opnd8) (s : State) : exec (.mkAlu op o) s = aluOpnd op o s :=
  exec_instr (.alu op o) s

theorem exec_mkAlu_ok {s : State} {o : Opnd8} {v : Byte} (op : AluOp) (h : s.readOpnd o = .ok v) :
    exec (.mkAlu op o) s = .next (((s.advance 1).alu op v).tick (operandCycles o 1 2)) := by
  rw [exec_mkAlu]
  exact primary_ok (by rw [State.readOpnd_advance, h]; rfl)

theorem exec_mkAlu_error {s : State} {o : Opnd8} {e : Fault} (op : AluOp) (h : s.readOpnd o = .error e) :
    exec (.mkAlu op o) s = .next (s.takeFault 1 e) := by
  rw [exec_mkAlu]
  exact primary_error (by rw [State.readOpnd_advance, h]; rfl)

theorem exec_mkAluD8 (op : AluOp) (v : Byte) (s : State) :
    exec (.mkAluD8 op v) s = .next (((s.advance 2).alu op v).tick 2) :=
  exec_instr (.aluD8 op v) s

/-- What is left to show of an ALU operation: the state `done` that its body leaves, and the first byte of its encodings. -/
theorem alu_rows {op : AluOp} {s : State} {v : Byte} {base imm : Nat} {done : Nat → Nat → State}
    (hbase : base = 0x80 + 8 * op.code) (himm : imm = 0xC6 + 8 * op.code)
    (hdone : ∀ len n, ((s.advance len).alu op v).tick n = done len n) :
    (∀ r, s.regs.get8 r = v → exec (.mkAlu op (.reg r)) s = .next (done 1 1)) ∧
    (s.load s.regs.hl = .ok v → exec (.mkAlu op .mHL) s = .next (done 1 2)) ∧
    (∀ e, s.load s.regs.hl = .error e → exec (.mkAlu op .mHL) s = .next (s.takeFault 1 e)) ∧
    exec (.mkAluD8 op v) s = .next (done 2 2) ∧
    (∀ o, encode (.mkAlu op o) = [BitVec.ofNat 8 (base + o.code)]) ∧ encode (.mkAluD8 op v) = [BitVec.ofNat 8 imm, v] := by
  subst hbase himm
  simp only [← hdone]
  exact ⟨fun r hr => exec_mkAlu_ok op (State.readOpnd_reg hr), exec_mkAlu_ok (o := .mHL) op,
    fun e => exec_mkAlu_error (o := .mHL) op, exec_mkAluD8 op v s, encode_mkAlu op, encode_mkAluD8 op v⟩

/-- R201 to R221: an ALU operation that stores its result. -/
theorem State.advance_alu_tick {op : AluOp} {s : State} {v w : Byte} {z nf h c : Bool} (hop : op ≠ .cp)
    (hr : aluResult op s.regs.a v s.flags.c = ⟨w, ⟨z, nf, h, c⟩⟩) (len n : Nat) :
    ((s.advance len).alu op v).tick n = ((s.passed len n).set8 .a w).withF z nf h c := by
  have halu : (s.advance len).alu op v = ((s.advance len).set8 .a w).setFlags ⟨z, nf, h, c⟩ := by
    simp only [State.alu, if_neg hop, State.flags_advance, State.advance_regs, hr]
  rw [halu, State.advance_set8_setFlags_tick]

/-- R222 to R224: CP stores no result. -/
theorem State.advance_cp_tick {s : State} {v w : Byte} {z nf h c : Bool}
    (hr : aluResult .cp s.regs.a v s.flags.c = ⟨w, ⟨z, nf, h, c⟩⟩) (len n : Nat) :
    ((s.advance len).alu .cp v).tick n = (s.passed len n).withF z nf h c := by
  have halu : (s.advance len).alu .cp v = (s.advance len).setFlags ⟨z, nf, h, c⟩ := by
    simp only [State.alu, if_true, State.flags_advance, State.advance_regs, hr]
  rw [halu, State.advance_setFlags_tick]

/-- R8: a difference cut to a byte, by adding what the cut takes off again. -/
theorem byte_ofInt_sub (a : Nat) {b : Nat} (hb : b ≤ 0x100) :
    BitVec.ofInt 8 ((a : Int) - b) = BitVec.ofNat 8 (a + 0x100 - b) := by
  apply BitVec.eq_of_toNat_eq
  rw [BitVec.toNat_ofInt, BitVec.toNat_ofNat]
  omega

/-- R207: SUB's result and flags, on natural numbers. -/
theorem sub8_false (a v : Byte) :
    sub8 a v false = ⟨BitVec.ofNat 8 (a.toNat + 0x100 - v.toNat), ⟨decide (a.toNat = v.toNat), true,
      decide (a.toNat % 0x10 < v.toNat % 0x10), decide (a.toNat < v.toNat)⟩⟩ := by
  have ha := a.isLt
  have hv := v.isLt
  have hvalue := byte_ofInt_sub a.toNat hv.le
  have hz : ((a.toNat : Int) - v.toNat) % 0x100 = 0 ↔ a.toNat = v.toNat := by omega
  simp [sub8, carryBit, hvalue, hz]

/-- Settles O1: the model's ADD is the sum with no carry in (`add8`). -/
theorem addWritesSumAndFlags : Obligations.AddWritesSumAndFlags := by
  intro s v
  exact alu_rows rfl rfl (State.advance_alu_tick (by decide) rfl)

/-- Settles O2: SUB on the integers is SUB on the naturals (`sub8_false`). -/
theorem subWritesDifferenceAndFlags : Obligations.SubWritesDifferenceAndFlags := by
  intro s v
  exact alu_rows rfl rfl (State.advance_alu_tick (op := .sub) (by decide) (sub8_false s.regs.a v))

/-- Settles O5: CP's flags are SUB's (`sub8_false`), and `State.advance_cp_tick` stores no result. -/
theorem cpSetsFlagsOnly : Obligations.CpSetsFlagsOnly := by
  intro s v
  exact alu_rows rfl rfl (State.advance_cp_tick (sub8_false ..))

/-- Settles O4: eight bits determine the byte written, so `w` is the model's bitwise result. -/
theorem andXorOrWriteA : Obligations.AndXorOrWriteA := by
  rintro s v w op base imm h
    (⟨rfl, rfl, rfl, rfl, hw⟩ | ⟨rfl, rfl, rfl, rfl, hw⟩ | ⟨rfl, rfl, rfl, rfl, hw⟩)
  · have hw : w = s.regs.a &&& v := BitVec.eq_of_getLsbD_eq fun i hi => by rw [hw i hi, BitVec.getLsbD_and]
    exact alu_rows rfl rfl (State.advance_alu_tick (by decide) (by rw [hw]; rfl))
  · have hw : w = s.regs.a ^^^ v := BitVec.eq_of_getLsbD_eq fun i hi => by rw [hw i hi, BitVec.getLsbD_xor]
    exact alu_rows rfl rfl (State.advance_alu_tick (by decide) (by rw [hw]; rfl))
  · have hw : w = s.regs.a ||| v := BitVec.eq_of_getLsbD_eq fun i hi => by rw [hw i hi, BitVec.getLsbD_or]
    exact alu_rows rfl rfl (State.advance_alu_tick (by decide) (by rw [hw]; rfl))

/-! ### INC and DEC of a byte (R225 to R228) -/

/-- The body of INC and DEC: `f`'s flags of the byte read, then `f`'s value to the operand. -/
def stepBody (f : Byte → Bool → Result8) (o : Opnd8) (s : State) : Except Fault State :=
  (s.readOpnd o).bind fun v => (s.setFlags (f v s.flags.c).flags).writeOpnd o (f v s.flags.c).value

theorem exec_mkInc8 (o : Opnd8) (s : State) : exec (.mkInc8 o) s = primary 1 (operandCycles o 1 3) (stepBody inc8 o) s :=
  exec_instr (.inc8 o) s

theorem exec_mkDec8 (o : Opnd8) (s : State) : exec (.mkDec8 o) s = primary 1 (operandCycles o 1 3) (stepBody dec8 o) s :=
  exec_instr (.dec8 o) s

/-- R225: the opcode of an INC row, from the code of its operand. -/
theorem encode_mkInc8 (o : Opnd8) : encode (.mkInc8 o) = [BitVec.ofNat 8 (0x04 + 8 * o.code)] := by
  rw [show Instr.mkInc8 o = (Form.inc8 o).instr from rfl, encode_instr, Nat.add_comm, Nat.mul_comm]
  simp only [Form.bytes, opcodeOf, Nat.zero_mul, Nat.zero_add]

theorem encode_mkDec8 (o : Opnd8) : encode (.mkDec8 o) = [BitVec.ofNat 8 (0x05 + 8 * o.code)] := by
  rw [show Instr.mkDec8 o = (Form.dec8 o).instr from rfl, encode_instr, Nat.add_comm, Nat.mul_comm]
  simp only [Form.bytes, opcodeOf, Nat.zero_mul, Nat.zero_add]

/-- The byte read, the body writes F and the operand. -/
theorem stepBody_advance {f : Byte → Bool → Result8} {s : State} {o : Opnd8} {v w : Byte} {z n h c : Bool}
    (hf : f v s.flags.c = ⟨w, ⟨z, n, h, c⟩⟩) (hv : s.readOpnd o = .ok v) :
    stepBody f o (s.advance 1) = ((s.advance 1).withF z n h c).writeOpnd o w := by
  simp only [stepBody, State.readOpnd_advance, hv, Except.bind, State.flags_advance, hf, State.setFlags_eq_withF]

theorem stepBody_unreadable {f : Byte → Bool → Result8} {s : State} {e : Fault} (he : s.load s.regs.hl = .error e) :
    stepBody f .mHL (s.advance 1) = .error e := by
  have hread : (s.advance 1).readOpnd .mHL = .error e := he
  simp only [stepBody, hread, Except.bind]

/-- R87: a write of the operand at HL faults where HL is not writable. -/
theorem State.writeOpnd_mHL_unwritable {s : State} (h : ¬ s.mmu.writable s.regs.hl) (v : Byte) :
    s.writeOpnd .mHL v = .error (.unmappedRegion s.regs.hl) := by
  simp only [State.writeOpnd, State.store, Mmu.writeByte_unwritable h, Except.map]

/-- R225: INC's result and flags. -/
theorem inc8_eq (v : Byte) (c : Bool) :
    inc8 v c = ⟨BitVec.ofNat 8 (v.toNat + 1), ⟨decide (v = 0xFF), false, decide (v.toNat % 0x10 = 0xF), c⟩⟩ := by
  have hv := v.isLt
  have hz : (v.toNat + 1) % 0x100 = 0 ↔ v = 0xFF := by bv_omega
  have hh : v.toNat % 0x10 + 1 > 0xF ↔ v.toNat % 0x10 = 0xF := by omega
  simp only [inc8, hz, hh]

/-- R227: DEC's result and flags, on natural numbers. -/
theorem dec8_eq (v : Byte) (c : Bool) :
    dec8 v c = ⟨BitVec.ofNat 8 (v.toNat + 0xFF), ⟨decide (v = 1), true, decide (v.toNat % 0x10 = 0), c⟩⟩ := by
  have hv := v.isLt
  have hvalue : BitVec.ofInt 8 ((v.toNat : Int) - 1) = BitVec.ofNat 8 (v.toNat + 0xFF) :=
    byte_ofInt_sub v.toNat (b := 1) (by decide)
  have hz : ((v.toNat : Int) - 1) % 0x100 = 0 ↔ v = 1 := by bv_omega
  simp only [dec8, hvalue, hz]

/-- What is left to show of INC and DEC: the row's meaning, result and flags, and its encoding. -/
theorem stepBody_rows {f : Byte → Bool → Result8} {make : Opnd8 → Instr} {s : State} {v : Byte} {base result : Nat}
    {z n h c : Bool} (hmake : ∀ o, exec (make o) s = primary 1 (operandCycles o 1 3) (stepBody f o) s)
    (hf : f v s.flags.c = ⟨BitVec.ofNat 8 result, ⟨z, n, h, c⟩⟩)
    (hcode : ∀ o, encode (make o) = [BitVec.ofNat 8 (base + 8 * o.code)]) :
    (∀ r, s.regs.get8 r = v →
      exec (make (.reg r)) s = .next (((s.passed 1 1).withF z n h c).set8 r (BitVec.ofNat 8 result))) ∧
    (s.load s.regs.hl = .ok v → s.mmu.writable s.regs.hl → ∃ m,
      s.mmu.StoresByte s.regs.hl (BitVec.ofNat 8 result) m ∧
        exec (make .mHL) s = .next (((s.passed 1 3).withF z n h c).withMmu m)) ∧
    (∀ e, s.load s.regs.hl = .error e → exec (make .mHL) s = .next (s.takeFault 1 e)) ∧
    (s.load s.regs.hl = .ok v → ¬ s.mmu.writable s.regs.hl →
      exec (make .mHL) s = .next (s.takeFault 1 (.unmappedRegion s.regs.hl))) ∧
    (∀ o, encode (make o) = [BitVec.ofNat 8 (base + 8 * o.code)]) := by
  simp only [hmake]
  refine ⟨fun r hr => ?_, fun hv hw => ?_, fun e he => primary_error (stepBody_unreadable he), fun hv hw => ?_, hcode⟩
  · have hbody := stepBody_advance hf (State.readOpnd_reg hr)
    rw [primary_ok hbody]
    rfl
  · obtain ⟨m, hm⟩ := Mmu.storesByte hw (BitVec.ofNat 8 result)
    have hbody := stepBody_advance (o := .mHL) hf hv
    refine ⟨m, hm, ?_⟩
    rw [primary_ok (hbody.trans (State.store_storesByte hm))]
    rfl
  · have hbody := stepBody_advance (o := .mHL) hf hv
    exact primary_error (hbody.trans (State.writeOpnd_mHL_unwritable (s := (s.advance 1).withF z n h c) hw _))

/-- Settles O6: INC and DEC are one body (`stepBody`) over two functions of the byte (`inc8_eq`, `dec8_eq`). -/
theorem incAndDecByteKeepCarry : Obligations.IncAndDecByteKeepCarry := by
  intro s v
  exact ⟨stepBody_rows (exec_mkInc8 · s) (by rw [inc8_eq, State.flag_c_eq]) encode_mkInc8,
    stepBody_rows (exec_mkDec8 · s) (by rw [dec8_eq, State.flag_c_eq]) encode_mkDec8⟩

/-! ### DAA (R229) -/

/-- R229: DAA's correction, from whether each digit needs one. -/
def daaCorrection (low high : Bool) : Nat := (if low then 0x06 else 0) + if high then 0x60 else 0

theorem toNat_daaCorrection (low high : Bool) :
    ((if low then 0x06 else 0) ||| (if high then 0x60 else 0) : Byte).toNat = daaCorrection low high := by
  revert low high; decide

theorem daaCorrection_le (low high : Bool) : daaCorrection low high ≤ 0x66 := by
  revert low high; decide

theorem byte_ofNat_eq_zero_iff (r : Nat) : BitVec.ofNat 8 r = 0 ↔ r % 0x100 = 0 := by
  rw [← BitVec.toNat_inj, BitVec.toNat_ofNat]; rfl

/-- R229: DAA's result and flags, on natural numbers. -/
theorem daa8_eq (a : Byte) (x : Flags) :
    let high := x.c || (!x.n && decide (a.toNat > 0x99))
    let correction := daaCorrection (x.h || (!x.n && decide (a.toNat % 0x10 > 9))) high
    let result := if x.n then a.toNat + 0x100 - correction else a.toNat + correction
    daa8 a x = ⟨BitVec.ofNat 8 result, ⟨decide (result % 0x100 = 0), x.n, false, high⟩⟩ := by
  have hadd (low high : Bool) : a + ((if low then 0x06 else 0) ||| (if high then 0x60 else 0)) =
      BitVec.ofNat 8 (a.toNat + daaCorrection low high) := by
    apply BitVec.eq_of_toNat_eq
    rw [BitVec.toNat_add, toNat_daaCorrection, BitVec.toNat_ofNat]
  have hsub (low high : Bool) : a - ((if low then 0x06 else 0) ||| (if high then 0x60 else 0)) =
      BitVec.ofNat 8 (a.toNat + 0x100 - daaCorrection low high) := by
    apply BitVec.eq_of_toNat_eq
    have hle := daaCorrection_le low high
    rw [BitVec.toNat_sub, toNat_daaCorrection, BitVec.toNat_ofNat]
    omega
  cases hn : x.n with
  | false => simp only [daa8, hn, Bool.false_eq_true, if_false, hadd, byte_ofNat_eq_zero_iff, Bool.not_false, Bool.true_and]
  | true => simp only [daa8, hn, if_true, hsub, byte_ofNat_eq_zero_iff, Bool.not_true, Bool.false_and, Bool.or_false]

theorem exec_daa (s : State) : exec .daa s = .next ((daaBody (s.advance 1)).tick 1) := exec_instr .daa s

/-- Settles O7: the model's correction of bytes is the sum of the rule's two (`daa8_eq`). -/
theorem daaAdjustsA : Obligations.DaaAdjustsA := by
  intro s
  refine ⟨?_, rfl⟩
  simp only [exec_daa, daaBody, State.advance_set8_setFlags_tick, State.advance_regs, State.flags_advance, daa8_eq,
    State.flag_n_eq, State.flag_h_eq, State.flag_c_eq]
  obtain hn | hn : s.regs.f.toNat / 0x40 % 2 = 0 ∨ s.regs.f.toNat / 0x40 % 2 = 1 := Nat.mod_two_eq_zero_or_one _
  · simp [hn, daaCorrection]
  · simp [hn, daaCorrection]

/-! ### CPL, SCF, CCF and the rotates of A (R230 to R236) -/

theorem xor_FF_eq (a : Byte) : a ^^^ 0xFF = BitVec.ofNat 8 (0xFF - a.toNat) := by
  revert a; decide

theorem State.carryBit_flag_c (s : State) : carryBit s.flags.c = s.regs.f.toNat / 0x10 % 2 := by
  rw [State.flag_c_eq]
  obtain hc | hc := Nat.mod_two_eq_zero_or_one (s.regs.f.toNat / 0x10) <;> simp [carryBit, hc]

theorem State.not_flag_c_eq (s : State) : (!s.flags.c) = decide (s.regs.f.toNat / 0x10 % 2 = 0) := by
  rw [State.flag_c_eq]
  obtain hc | hc := Nat.mod_two_eq_zero_or_one (s.regs.f.toNat / 0x10) <;> simp [hc]

theorem shiftValue_rlc (v : Byte) (c : Bool) :
    shiftValue .rlc v c = (BitVec.ofNat 8 (v.toNat * 2 + v.toNat / 0x80), decide (v.toNat / 0x80 = 1)) := by
  revert v c; decide

theorem shiftValue_rrc (v : Byte) (c : Bool) :
    shiftValue .rrc v c = (BitVec.ofNat 8 (v.toNat / 2 + 0x80 * (v.toNat % 2)), decide (v.toNat % 2 = 1)) := by
  revert v c; decide

theorem shiftValue_rl (v : Byte) (c : Bool) :
    shiftValue .rl v c = (BitVec.ofNat 8 (v.toNat * 2 + carryBit c), decide (v.toNat / 0x80 = 1)) := by
  revert v c; decide

theorem shiftValue_rr (v : Byte) (c : Bool) :
    shiftValue .rr v c = (BitVec.ofNat 8 (v.toNat / 2 + 0x80 * carryBit c), decide (v.toNat % 2 = 1)) := by
  revert v c; decide

/-- R233 to R236: a rotate of A clears Z, N and H and ejects a bit into C. -/
theorem State.advance_rotateABody_tick {op : ShiftOp} {s : State} {w : Byte} {out : Bool}
    (hr : shiftValue op s.regs.a s.flags.c = (w, out)) (len n : Nat) :
    (rotateABody op (s.advance len)).tick n = ((s.passed len n).set8 .a w).withF false false false out := by
  simp only [rotateABody, rotateA8, State.advance_set8_setFlags_tick, State.advance_regs, State.flags_advance, hr]

theorem exec_cpl (s : State) : exec .cpl s = .next ((cplBody (s.advance 1)).tick 1) := exec_instr .cpl s

theorem exec_scf (s : State) : exec .scf s = .next ((scfBody (s.advance 1)).tick 1) := exec_instr .scf s

theorem exec_ccf (s : State) : exec .ccf s = .next ((ccfBody (s.advance 1)).tick 1) := exec_instr .ccf s

/-- Settles O9: the rotates by `State.advance_rotateABody_tick`, each with its bits on numbers; the others write F's fields. -/
theorem accumulatorAndCarryInstructions : Obligations.AccumulatorAndCarryInstructions := by
  intro s
  refine ⟨?cpl, ?scf, ?ccf, ?rlca, ?rrca, ?rla, ?rra, rfl, rfl, rfl, rfl, rfl, rfl, rfl⟩
  case cpl =>
    rw [exec_cpl, ← State.flag_z_eq, ← State.flag_c_eq, ← xor_FF_eq]
    exact congrArg _ (State.advance_set8_setFlags_tick ..)
  case scf =>
    rw [exec_scf, ← State.flag_z_eq]
    exact congrArg _ (State.advance_setFlags_tick ..)
  case ccf =>
    rw [exec_ccf, ← State.flag_z_eq, ← State.not_flag_c_eq]
    exact congrArg _ (State.advance_setFlags_tick ..)
  case rlca => exact (exec_instr .rlca s).trans (congrArg _ (State.advance_rotateABody_tick (shiftValue_rlc ..) 1 1))
  case rrca => exact (exec_instr .rrca s).trans (congrArg _ (State.advance_rotateABody_tick (shiftValue_rrc ..) 1 1))
  case rla =>
    rw [← State.carryBit_flag_c]
    exact (exec_instr .rla s).trans (congrArg _ (State.advance_rotateABody_tick (shiftValue_rl ..) 1 1))
  case rra =>
    rw [← State.carryBit_flag_c]
    exact (exec_instr .rra s).trans (congrArg _ (State.advance_rotateABody_tick (shiftValue_rr ..) 1 1))

end Sys2Proof.Machine
end

section
/-! O11. ADD HL,rr of 41_alu16.md: what its shared body leaves, in the words of the claim, and the opcode of its row. -/

namespace Sys2Proof.Machine

/-- R33, R125: no pair holds a part of PC, so the fetch of an instruction changes no operand. -/
@[simp] theorem Regs.get16_withPc (r : Regs) (p : Pair) (v : Word) : { r with pc := v }.get16 p = r.get16 p := by
  cases p <;> rfl

theorem State.advance_set16_setFlags_tick (s : State) (len n : Nat) (p : Pair) (v : Word) (x : Flags) :
    (((s.advance len).set16 p v).setFlags x).tick n = ((s.passed len n).set16 p v).withF x.z x.n x.h x.c := by
  rw [State.setFlags_eq_withF]
  cases p <;> rfl

/-- R263: ADD HL,rr cannot fail, and its operands are those before the fetch. -/
theorem exec_mkAddHL {s : State} {p : Pair} {w : Word} {z n h c : Bool}
    (hr : addHL16 s.regs.hl (s.regs.get16 p) s.flags.z = ⟨w, ⟨z, n, h, c⟩⟩) :
    exec (.mkAddHL p) s = .next (((s.passed 1 2).set16 .hl w).withF z n h c) := by
  have hfetched : addHL16 (s.advance 1).regs.hl ((s.advance 1).regs.get16 p) (s.advance 1).flags.z =
      ⟨w, ⟨z, n, h, c⟩⟩ := by
    rw [State.advance_regs, Regs.get16_withPc]
    exact hr
  rw [show Instr.mkAddHL p = (Form.addHL p).instr from rfl, exec_instr]
  simp only [execForm, addHLPair, primary_unfailing, hfetched, State.advance_set16_setFlags_tick]

/-- R263: the opcode of an ADD HL row, from the code of its pair. -/
theorem encode_mkAddHL (p : Pair) : encode (.mkAddHL p) = [BitVec.ofNat 8 (0x09 + 0x10 * p.code)] := by
  cases p <;> rfl

/-- Settles O11: the model's ADD HL (`addHL16`) is the sum on numbers, and the Z it writes is the Z that F held
(`State.flag_z_eq`). -/
theorem addHlKeepsZ : Obligations.AddHlKeepsZ := by
  intro s p
  refine ⟨?_, encode_mkAddHL p⟩
  rw [← State.flag_z_eq]
  exact exec_mkAddHL rfl

end Sys2Proof.Machine
end

section
/-! O16, O20. RET, RET cc and POP of 42_control.md: what a body that starts with a pop answers, from the two bytes at SP, and the
encoding of the rows. -/

namespace Sys2Proof.Machine

/-! ### A row whose body starts with a pop (R12, R288, R301) -/

/-- R12, R38: SP and the stack are those before the fetch, so the two bytes at SP make the word popped. -/
theorem primary_pop16_bytes {s : State} {lo hi : Byte} (hlo : s.load s.regs.sp = .ok lo)
    (hhi : s.load (s.regs.sp + 1) = .ok hi) (len n : Nat) (f : Word × State → State) :
    primary len n (fun t => t.pop16.map f) s =
      .next ((f (hi ++ lo, (s.advance len).setSP (s.regs.sp + 2))).tick n) := by
  have hpop : (s.advance len).pop16 = .ok (hi ++ lo, (s.advance len).setSP (s.regs.sp + 2)) :=
    State.pop16_bytes (s := s.advance len) hlo hhi
  exact primary_ok (by rw [hpop]; rfl)

/-- R12, R500: a fault of the first or of the second read undoes the step. -/
theorem primary_pop16_error {s : State} {lo : Byte} {e : Fault}
    (h : s.load s.regs.sp = .error e ∨ (s.load s.regs.sp = .ok lo ∧ s.load (s.regs.sp + 1) = .error e)) (len n : Nat)
    (f : Word × State → State) : primary len n (fun t => t.pop16.map f) s = .next (s.takeFault 1 e) := by
  have hpop : (s.advance len).pop16 = .error e := State.pop16_error (s := s.advance len) h
  exact primary_error (by rw [hpop]; rfl)

/-! ### RET and RET cc (R288, R289) -/

/-- R288: a return that completes, in the words of the claim. -/
theorem primary_retBody_bytes {s : State} {lo hi : Byte} (hlo : s.load s.regs.sp = .ok lo)
    (hhi : s.load (s.regs.sp + 1) = .ok hi) (n : Nat) :
    primary 1 n retBody s = .next (((s.passed 1 n).setSP (s.regs.sp + 2)).jump (hi ++ lo)) :=
  primary_pop16_bytes hlo hhi 1 n fun (v, t) => t.jump v

theorem exec_ret (s : State) : exec .ret s = primary 1 4 retBody s := exec_instr .ret s

theorem exec_mkRetCC (cc : Cond) (s : State) : exec (.mkRetCC cc) s = conditional 1 5 2 cc retBody s :=
  exec_instr (.retCC cc) s

/-- R289: the opcode of a RET cc row, from the code of its condition. -/
theorem encode_mkRetCC (cc : Cond) : encode (.mkRetCC cc) = [BitVec.ofNat 8 (0xC0 + 8 * cc.code)] := by
  cases cc <;> rfl

/-- Settles O16: RET, and RET cc where its condition holds, are one body (`retBody`) with two counts; not taken, RET cc does not run
it (`conditional_notTaken`). -/
theorem returnsPopPc : Obligations.ReturnsPopPc := by
  intro s lo hi cc e
  rw [exec_ret, exec_mkRetCC]
  refine ⟨fun hlo hhi => ⟨primary_retBody_bytes hlo hhi 4, fun hcc => ?_⟩, fun hcc => conditional_notTaken hcc .., fun hfault =>
    ⟨primary_pop16_error hfault .., fun hcc => ?_⟩, rfl, encode_mkRetCC cc⟩
  · rw [conditional_taken hcc]
    exact primary_retBody_bytes hlo hhi 5
  · rw [conditional_taken hcc]
    exact primary_pop16_error hfault ..

/-! ### POP (R301) -/

/-- A write of a stack pair by its two bytes, with the registers and the flags named (R33, R301). -/
def State.setStackBytes (s : State) (hi lo : Byte) : StackPair → State
  | .bc => (s.set8 .b hi).set8 .c lo
  | .de => (s.set8 .d hi).set8 .e lo
  | .hl => (s.set8 .h hi).set8 .l lo
  | .af => (s.set8 .a hi).withF (lo.getLsbD 7) (lo.getLsbD 6) (lo.getLsbD 5) (lo.getLsbD 4)

/-- R32, R35: masking the low nibble leaves the byte F is for bits 7 to 4. -/
theorem and_F0_eq_flagByte (b : Byte) :
    b &&& 0xF0 = flagByte (b.getLsbD 7) (b.getLsbD 6) (b.getLsbD 5) (b.getLsbD 4) := by
  revert b; decide

theorem State.setStack_append (s : State) (p : StackPair) (hi lo : Byte) :
    s.setStack p (hi ++ lo) = s.setStackBytes hi lo p := by
  cases p with
  | bc | de | hl =>
    simp only [State.setStack, Regs.setStack, hi8_append, lo8_append]
    rfl
  | af =>
    simp only [State.setStack, Regs.setStack, hi8_append, lo8_append, and_F0_eq_flagByte]
    rfl

theorem exec_mkPop (p : StackPair) (s : State) : exec (.mkPop p) s = popStep p s := exec_instr (.pop p) s

/-- R301: a POP that completes. -/
theorem exec_mkPop_bytes {s : State} {lo hi : Byte} (hlo : s.load s.regs.sp = .ok lo)
    (hhi : s.load (s.regs.sp + 1) = .ok hi) (p : StackPair) :
    exec (.mkPop p) s = .next (((s.passed 1 3).setSP (s.regs.sp + 2)).setStackBytes hi lo p) := by
  rw [exec_mkPop, popStep, primary_pop16_bytes hlo hhi, ← State.setStack_append]
  rfl

/-- R301: the opcode of a POP row, from the code of its pair. -/
theorem encode_mkPop (p : StackPair) : encode (.mkPop p) = [BitVec.ofNat 8 (0xC1 + 0x10 * p.code)] := by
  cases p <;> rfl

/-- Settles O20: the word popped is written byte by byte (`State.setStack_append`), F's low nibble masked
(`and_F0_eq_flagByte`). -/
theorem popLoadsThePair : Obligations.PopLoadsThePair := by
  intro s lo hi e
  refine ⟨fun hlo hhi => ?_, fun hfault p => ?_, encode_mkPop⟩
  · have hpop := exec_mkPop_bytes hlo hhi
    exact ⟨hpop .bc, hpop .de, hpop .hl, hpop .af⟩
  · rw [exec_mkPop, popStep]
    exact primary_pop16_error hfault ..

end Sys2Proof.Machine
end

section
/-! O23, O24, O25, O26. The loads and stores of 44_loads.md: what the shared bodies leave, in the words of the claims, and the
encoding of the rows. -/

namespace Sys2Proof.Machine

/-- R31, R38: PC is no register operand, so the fetch of an instruction changes none. -/
@[simp] theorem Regs.get8_withPc (r : Regs) (x : Reg8) (v : Word) : { r with pc := v }.get8 x = r.get8 x := by
  cases x <;> rfl

/-- R127, R340: the high page, on numbers. -/
theorem highPage_eq (n : Byte) : highPage n = BitVec.ofNat 16 (0xFF00 + n.toNat) := append_eq_ofNat 0xFF n

/-- R122, R127: a 16-bit operand, on numbers. -/
theorem withImm16_eq (op : Byte) (w : Word) :
    withImm16 op w = [op, BitVec.ofNat 8 w.toNat, BitVec.ofNat 8 (w.toNat / 0x100)] := by
  rw [withImm16, lo8_eq, hi8_eq]

/-! ### LD r,r', LD r,d8, LD rr,d16 and LD SP,HL (R341, R342, R360, R363) -/

theorem exec_mkLdRR (dst src : Reg8) (s : State) :
    exec (.mkLdRR dst src) s = .next ((s.passed 1 1).set8 dst (s.regs.get8 src)) := by
  rw [show Instr.mkLdRR dst src = (Form.ldRR dst src).instr from rfl, exec_instr]
  simp only [execForm, ldRegReg, primary_unfailing, State.advance_regs, Regs.get8_withPc]
  rfl

/-- R341: the opcode of an LD r,r' row, from the codes of its registers. -/
theorem encode_mkLdRR (dst src : Reg8) : encode (.mkLdRR dst src) = [BitVec.ofNat 8 (0x40 + 8 * dst.code + src.code)] := by
  rw [show Instr.mkLdRR dst src = (Form.ldRR dst src).instr from rfl, encode_instr, Nat.mul_comm]
  rfl

theorem encode_mkLdRD8 (r : Reg8) (x : Byte) : encode (.mkLdRD8 r x) = [BitVec.ofNat 8 (0x06 + 8 * r.code), x] := by
  cases r <;> rfl

theorem encode_mkLdPairD16 (p : Pair) (w : Word) : encode (.mkLdPairD16 p w) =
    [BitVec.ofNat 8 (0x01 + 0x10 * p.code), BitVec.ofNat 8 w.toNat, BitVec.ofNat 8 (w.toNat / 0x100)] := by
  rw [← withImm16_eq]
  cases p <;> rfl

/-- Settles O23: each body writes its destination and cannot fail; LD r,r' reads its source as it was before the fetch
(`Regs.get8_withPc`). -/
theorem registerLoads : Obligations.RegisterLoads := by
  intro s dst src p d8 d16
  exact ⟨exec_mkLdRR dst src s, exec_instr (.ldRD8 dst d8) s, exec_instr (.ldPairD16 p d16) s, exec_instr .ldSPHL s,
    encode_mkLdRR dst src, encode_mkLdRD8 dst d8, encode_mkLdPairD16 p d16, rfl⟩

/-! ### Loads of a register from memory (R343, R346, R347, R355, R357, R359) -/

theorem loadInto_ok {s : State} {r : Reg8} {addr : State → Word} {v : Byte} (h : s.load (addr s) = .ok v) :
    loadInto r addr s = .ok (s.set8 r v) := by
  simp only [loadInto, h, Except.map]

theorem loadInto_error {s : State} {r : Reg8} {addr : State → Word} {e : Fault} (h : s.load (addr s) = .error e) :
    loadInto r addr s = .error e := by
  simp only [loadInto, h, Except.map]

/-- R343, R500: a row that loads a register, once its encoding, its body and the address that the body reads are known. -/
theorem loadInto_row {i : Instr} {s : State} {bytes : List Byte} {r : Reg8} {addr : State → Word} {a : Word} {n : Nat}
    (hcode : encode i = bytes) (hexec : exec i s = primary bytes.length n (loadInto r addr) s)
    (haddr : addr (s.advance bytes.length) = a) :
    encode i = bytes ∧ (∀ v, s.load a = .ok v → exec i s = .next ((s.passed bytes.length n).set8 r v)) ∧
      (∀ e, s.load a = .error e → exec i s = .next (s.takeFault 1 e)) := by
  subst haddr
  rw [hexec]
  exact ⟨hcode, fun v hv => primary_ok (loadInto_ok hv), fun e he => primary_error (loadInto_error he)⟩

/-- R343: the opcode of an LD r,(HL) row, from the code of its register. -/
theorem encode_mkLdRM (r : Reg8) : encode (.mkLdRM r) = [BitVec.ofNat 8 (0x46 + 8 * r.code)] := by
  cases r <;> rfl

/-- Settles O24: the six forms are one body (`loadInto`) at six addresses, which the fetch does not change. -/
theorem loadsFromMemory : Obligations.LoadsFromMemory := by
  intro s r x a
  refine ⟨?hl, ?bc, ?de, ?c, ?a8, ?a16⟩
  case hl => exact loadInto_row (encode_mkLdRM r) (exec_instr (.ldRM r) s) rfl
  case bc => exact loadInto_row rfl (exec_instr (.ldAPtr .bc) s) rfl
  case de => exact loadInto_row rfl (exec_instr (.ldAPtr .de) s) rfl
  case c => exact loadInto_row rfl (exec_instr .ldAMC s) (highPage_eq s.regs.c)
  case a8 => exact loadInto_row rfl (exec_instr (.ldhAM x) s) (highPage_eq x)
  case a16 => exact loadInto_row (withImm16_eq 0xFA a) (exec_instr (.ldAM16 a) s) rfl

/-! ### Stores of a byte (R344, R345, R348, R349, R354, R356, R358) -/

/-- R87: a store faults where its address is not writable. -/
theorem State.store_unwritable {s : State} {a : Word} (h : ¬ s.mmu.writable a) (v : Byte) :
    s.store a v = .error (.unmappedRegion a) := by
  simp only [State.store, Mmu.writeByte_unwritable h, Except.map]

/-- R344, R500: a row that stores a byte, once its encoding, its body, and the address and the byte of its store are known. -/
theorem store_row {i : Instr} {s : State} {bytes : List Byte} {body : State → Except Fault State} {v : Byte} {a : Word}
    {n : Nat} (hcode : encode i = bytes) (hexec : exec i s = primary bytes.length n body s)
    (hbody : body (s.advance bytes.length) = (s.advance bytes.length).store a v) :
    encode i = bytes ∧
      (s.mmu.writable a → ∃ m, s.mmu.StoresByte a v m ∧ exec i s = .next ((s.passed bytes.length n).withMmu m)) ∧
      (¬ s.mmu.writable a → exec i s = .next (s.takeFault 1 (.unmappedRegion a))) := by
  rw [hexec]
  refine ⟨hcode, fun hw => ?_, fun hw => ?_⟩
  · obtain ⟨m, hm⟩ := Mmu.storesByte hw v
    exact ⟨m, hm, primary_ok (hbody.trans (State.store_storesByte hm))⟩
  · have hstore := State.store_unwritable (s := s.advance bytes.length) hw v
    exact primary_error (hbody.trans hstore)

/-- R344: the byte a store takes from a register is the register's before the fetch. -/
theorem storeFrom_advance {s : State} {addr : State → Word} {len : Nat} {a : Word} (r : Reg8)
    (haddr : addr (s.advance len) = a) : storeFrom r addr (s.advance len) = (s.advance len).store a (s.regs.get8 r) := by
  rw [storeFrom, haddr, State.advance_regs, Regs.get8_withPc]

/-- R344: the opcode of an LD (HL),r row, from the code of its register. -/
theorem encode_mkLdMR (r : Reg8) : encode (.mkLdMR r) = [BitVec.ofNat 8 (0x70 + r.code)] := by
  cases r <;> rfl

/-- Settles O25: LD (HL),d8 stores its operand; the other six forms are one body (`storeFrom`) at six addresses. -/
theorem storesToMemory : Obligations.StoresToMemory := by
  intro s r x a
  refine ⟨?hl, ?hlD8, ?bc, ?de, ?c, ?a8, ?a16⟩
  case hl => exact store_row (encode_mkLdMR r) (exec_instr (.ldMR r) s) (storeFrom_advance r rfl)
  case hlD8 => exact store_row rfl (exec_instr (.ldMD8 x) s) rfl
  case bc => exact store_row rfl (exec_instr (.ldPtrA .bc) s) (storeFrom_advance .a rfl)
  case de => exact store_row rfl (exec_instr (.ldPtrA .de) s) (storeFrom_advance .a rfl)
  case c => exact store_row rfl (exec_instr .ldMCA s) (storeFrom_advance .a (highPage_eq s.regs.c))
  case a8 => exact store_row rfl (exec_instr (.ldhMA x) s) (storeFrom_advance .a (highPage_eq x))
  case a16 => exact store_row (withImm16_eq 0xEA a) (exec_instr (.ldM16A a) s) (storeFrom_advance .a rfl)

/-! ### Accesses that step HL (R350 to R353) -/

/-- R350 to R353: the step of HL, on numbers. -/
theorem State.stepHL_eq (delta : Word) (s : State) :
    s.stepHL delta = s.set16 .hl (BitVec.ofNat 16 (s.regs.hl.toNat + delta.toNat)) := by
  rw [State.stepHL, BitVec.add_def]

/-- R350, R352: a store that completes, then the step of HL. -/
theorem primary_storeStep_storesByte {s : State} {m : Mmu} (h : s.mmu.StoresByte s.regs.hl s.regs.a m) (delta : Word) :
    primary 1 2 (storeStep delta) s =
      .next (((s.passed 1 2).set16 .hl (BitVec.ofNat 16 (s.regs.hl.toNat + delta.toNat))).withMmu m) := by
  have hstore : storeFrom .a (fun t => t.regs.hl) (s.advance 1) = .ok ((s.advance 1).withMmu m) :=
    State.store_storesByte (s := s.advance 1) h
  rw [primary_ok (by rw [storeStep, hstore]; rfl), State.stepHL_eq]
  rfl

/-- R500: a store that faults steps nothing. -/
theorem primary_storeStep_unwritable {s : State} (h : ¬ s.mmu.writable s.regs.hl) (delta : Word) :
    primary 1 2 (storeStep delta) s = .next (s.takeFault 1 (.unmappedRegion s.regs.hl)) := by
  have hstore : storeFrom .a (fun t => t.regs.hl) (s.advance 1) = .error (.unmappedRegion s.regs.hl) :=
    State.store_unwritable (s := s.advance 1) h _
  exact primary_error (by rw [storeStep, hstore]; rfl)

/-- R351, R353: a load that completes, then the step of the old HL. -/
theorem primary_loadStep_ok {s : State} {v : Byte} (h : s.load s.regs.hl = .ok v) (delta : Word) :
    primary 1 2 (loadStep delta) s =
      .next (((s.passed 1 2).set16 .hl (BitVec.ofNat 16 (s.regs.hl.toNat + delta.toNat))).set8 .a v) := by
  have hload : loadInto .a (fun t => t.regs.hl) (s.advance 1) = .ok ((s.advance 1).set8 .a v) := loadInto_ok h
  rw [primary_ok (by rw [loadStep, hload]; rfl), State.stepHL_eq]
  rfl

/-- R500: a load that faults steps nothing. -/
theorem primary_loadStep_error {s : State} {e : Fault} (h : s.load s.regs.hl = .error e) (delta : Word) :
    primary 1 2 (loadStep delta) s = .next (s.takeFault 1 e) := by
  have hload : loadInto .a (fun t => t.regs.hl) (s.advance 1) = .error e := loadInto_error h
  exact primary_error (by rw [loadStep, hload]; rfl)

/-- Settles O26: the four rows are a store and a load (`storeStep`, `loadStep`) with the steps 1 and -1, which is 0xFFFF modulo
0x10000. -/
theorem accessesThatStepHl : Obligations.AccessesThatStepHl := by
  intro s v e
  have hstoreUp := exec_instr .ldMIncA s
  have hstoreDown := exec_instr .ldMDecA s
  have hloadUp := exec_instr .ldAMInc s
  have hloadDown := exec_instr .ldAMDec s
  refine ⟨fun hw => ?_, fun hw => ?_, fun hv => ?_, fun he => ?_, rfl, rfl, rfl, rfl⟩
  · obtain ⟨m, hm⟩ := Mmu.storesByte hw s.regs.a
    exact ⟨m, hm, hstoreUp.trans (primary_storeStep_storesByte hm 1),
      hstoreDown.trans (primary_storeStep_storesByte hm (-1))⟩
  · exact ⟨hstoreUp.trans (primary_storeStep_unwritable hw 1), hstoreDown.trans (primary_storeStep_unwritable hw (-1))⟩
  · exact ⟨hloadUp.trans (primary_loadStep_ok hv 1), hloadDown.trans (primary_loadStep_ok hv (-1))⟩
  · exact ⟨hloadUp.trans (primary_loadStep_error he 1), hloadDown.trans (primary_loadStep_error he (-1))⟩

end Sys2Proof.Machine
end

section
/-! O41, O44, O46, O47. Whole-step claims, from the ways a step can end (`step_cases`): what they do to the invariant, to the fault
latch and, along a run, to the memory. -/

namespace Sys2Proof.Machine

/-- R50, R71, R77: the writes of a step keep the memory's part of the invariant, and no step sets a bit of F's low nibble. -/
theorem StepEnd.inv {s t : State} (h : StepEnd s t) (hs : s.Inv) : t.Inv := by
  obtain ⟨hlow, himage, hwf⟩ := hs
  obtain ⟨hbios, -, hin, hkeep⟩ := h.writes.latch
  exact ⟨h.f_low hlow, fun ht => by rw [hbios]; exact himage (hin ht), hkeep hwf⟩

/-- Settles O41: however a step ends, it keeps the invariant (`StepEnd.inv`). -/
theorem stepKeepsTheInvariant : Obligations.StepKeepsTheInvariant := by
  intro s t hs hstep
  exact (step_cases hstep).2.inv hs

/-- R500: a step that starts with no fault ends with none, or is undone by the fault that it latches. -/
theorem StepEnd.fault_cases {s t : State} (h : StepEnd s t) (hs : s.fault = none) :
    t.fault = none ∨ ∃ k e, k ≤ 2 ∧ t = s.takeFault k e ∧
      (e.OfHole s.mmu ∨ ∃ op : IllegalByte, e = .unimplementedOpcode op.byte none ∧ s.load s.regs.pc = .ok op.byte) := by
  cases h with
  | stopped => exact .inl hs
  | idle => exact .inl hs
  | faulted k e hk _ he => exact .inr ⟨k, e, hk, rfl, he⟩
  | interrupt u _ _ _ hd => exact .inl ((State.dispatch_ok hd).1.trans hs)
  | ran i u _ _ _ _ he => exact .inl ((settle_fault s u).trans (he.fault.trans hs))

/-- Settles O44: of the ways a step can end, only the undone one latches a fault (`StepEnd.fault_cases`). -/
theorem faultsArePrecise : Obligations.FaultsArePrecise := by
  intro s t e hstep he
  obtain ⟨hs, hend⟩ := step_cases hstep
  obtain hnone | ⟨k, e', hk, rfl, horigin⟩ := hend.fault_cases hs
  · rw [hnone] at he; cases he
  · cases he
    refine ⟨⟨k, hk, rfl⟩, ?_⟩
    obtain ⟨a, ha, hrom, -⟩ | hillegal := horigin
    · exact .inr ⟨a, ha, hrom⟩
    · exact .inl hillegal

/-- The memory of a run changes by writes of bytes only. -/
theorem Reaches.writes {s t : State} (h : Reaches s t) : Mmu.Writes s.mmu t.mmu := by
  induction h with
  | refl => exact .refl _
  | tail _ hstep ih => exact ih.trans (step_cases hstep).2.writes

/-- Settles O46: no write of a byte touches the images' presence or sets inBIOS (`Mmu.Writes.latch`). -/
theorem runsNeverRaiseTheBiosLatch : Obligations.RunsNeverRaiseTheBiosLatch := by
  intro s t hrun
  obtain ⟨hbios, hrom, hin, -⟩ := hrun.writes.latch
  refine ⟨hbios, hrom, fun hs => ?_⟩
  rw [Bool.eq_false_iff] at hs ⊢
  exact fun ht => hs (hin ht)

/-- Settles O47: the writes of a run leave every address mapped, so the last step of a run meets no hole, and a fault that it
latches is an illegal byte's. -/
theorem mappedRunsFaultOnlyOnIllegalBytes : Obligations.MappedRunsFaultOnlyOnIllegalBytes := by
  intro s t hmapped hfault hrun
  refine ⟨hrun.writes.mapped hmapped, ?_⟩
  cases hrun with
  | refl => exact .inl hfault
  | tail hbefore hstep =>
    obtain ⟨hnone, hend⟩ := step_cases hstep
    obtain ht | ⟨k, e, -, rfl, ⟨-, -, -, hhole⟩ | ⟨op, rfl, -⟩⟩ := hend.fault_cases hnone
    · exact .inl ht
    · exact absurd (hbefore.writes.mapped hmapped) hhole
    · exact .inr ⟨op, rfl⟩

end Sys2Proof.Machine
end

section
/-! O38, O42. What one instruction does with every address mapped; the invariant at reset and after the loading of images. -/

namespace Sys2Proof.Machine

/-- Settles O38: an instruction that is undone meets a hole of the address map or is an illegal byte (`exec_next`). -/
theorem everyInstructionCompletes : Obligations.EveryInstructionCompletes := by
  intro i s hmapped hfault hlegal
  obtain ⟨t, ht, ⟨k, e, -, -, ⟨-, -, -, hhole⟩ | ⟨op, hop, -⟩⟩ | heffect⟩ := exec_next i s
  · exact absurd hmapped hhole
  · exact absurd (by rw [← Instr.instr_form i, hop]; rfl) (hlegal op)
  · exact ⟨t, ht, heffect.fault.trans hfault, heffect.mmu.mapped hmapped, heffect.mmu.latch.1, heffect.clock⟩

/-- R94: a ROM image of the right length is a canonical buffer, and it is all that changes. -/
theorem State.loadRom_inv {s t : State} {bytes : List Byte} (hs : s.Inv) (h : s.loadRom bytes = .ok t) : t.Inv := by
  obtain ⟨hlow, himage, hwf⟩ := hs
  unfold State.loadRom at h
  split at h
  · rename_i hlen
    cases h
    refine ⟨hlow, himage, ?_⟩
    simp only [Mmu.wf, State.withMmu_mmu, imageWf, Memory.wf_ofBytes hlen, Bool.and_eq_true] at hwf ⊢
    simp only [hwf, and_self]
  · cases h

/-- R95: a BIOS image of the right length is a canonical buffer, and it is all that changes. -/
theorem State.setBios_inv {s t : State} {bytes : List Byte} (hs : s.Inv) (h : s.setBios bytes = .ok t) : t.Inv := by
  obtain ⟨hlow, -, hwf⟩ := hs
  unfold State.setBios at h
  split at h
  · rename_i hlen
    cases h
    refine ⟨hlow, fun _ => rfl, ?_⟩
    simp only [Mmu.wf, State.withMmu_mmu, imageWf, Memory.wf_ofBytes hlen, Bool.and_eq_true] at hwf ⊢
    simp only [hwf, and_self]
  · cases h

/-- Settles O42: both reset values of F are in form (`State.hostReset_f_low`), the reset sets inBIOS by the image itself, and the
buffers are those before it. -/
theorem resetHasTheInvariant : Obligations.ResetHasTheInvariant := by
  refine ⟨⟨by decide, by decide, by decide⟩, fun s hwf => ⟨s.hostReset_f_low, id, hwf⟩, ?_⟩
  rintro s t bytes hs (h | h)
  · exact State.loadRom_inv hs h
  · exact State.setBios_inv hs h

end Sys2Proof.Machine
end

section
/-! O48. No body, no fetch and no dispatch looks at the clock, so a step from a state with another clock gives the same state with
the clock as much further on. -/

namespace Sys2Proof.Machine

/-- A state with another clock (R40). -/
def State.withClock (s : State) (c : Nat) : State := { s with clock := c }

/-! ### Bodies -/

/-- A body gives the same answer whatever the clock is, and leaves the clock as it was. -/
def ClockFree (body : State → Except Fault State) : Prop := ∀ s c, body (s.withClock c) = (body s).map (·.withClock c)

theorem ClockFree.unfailing {f : State → State} (h : ∀ s c, f (s.withClock c) = (f s).withClock c) :
    ClockFree (unfailing f) := fun s c => congrArg Except.ok (h s c)

theorem ClockFree.map {body : State → Except Fault State} {f : State → State} (hb : ClockFree body)
    (h : ∀ s c, f (s.withClock c) = (f s).withClock c) : ClockFree fun s => (body s).map f := by
  intro s c
  simp only [hb s c]
  cases body s with
  | error e => rfl
  | ok t => exact congrArg Except.ok (h t c)

/-- A body that reads something, which does not depend on the clock, and runs on what it read. -/
theorem ClockFree.bind {α : Type} {read : State → Except Fault α} {run : State → α → Except Fault State}
    (hread : ∀ s c, read (s.withClock c) = read s) (hrun : ∀ v, ClockFree fun s => run s v) :
    ClockFree fun s => (read s).bind (run s) := by
  intro s c
  simp only [hread s c]
  cases read s with
  | error e => rfl
  | ok v => exact hrun v s c

/-- A body that reads something, and changes the state by it in a way that cannot fault. -/
theorem ClockFree.mapRead {α : Type} {read : State → Except Fault α} {f : State → α → State}
    (hread : ∀ s c, read (s.withClock c) = read s) (h : ∀ v s c, f (s.withClock c) v = (f s v).withClock c) :
    ClockFree fun s => (read s).map (f s) := by
  intro s c
  simp only [hread s c]
  cases read s with
  | error e => rfl
  | ok v => exact congrArg Except.ok (h v s c)

theorem ClockFree.store {addr : State → Word} {v : State → Byte} (ha : ∀ s c, addr (s.withClock c) = addr s)
    (hv : ∀ s c, v (s.withClock c) = v s) : ClockFree fun s => s.store (addr s) (v s) :=
  .mapRead (read := fun s => s.mmu.writeByte (addr s) (v s)) (fun s c => by rw [ha, hv]; rfl) fun _ _ _ => rfl

theorem ClockFree.storeWord {addr v : State → Word} (ha : ∀ s c, addr (s.withClock c) = addr s)
    (hv : ∀ s c, v (s.withClock c) = v s) : ClockFree fun s => s.storeWord (addr s) (v s) :=
  .mapRead (read := fun s => s.mmu.writeWord (addr s) (v s)) (fun s c => by rw [ha, hv]; rfl) fun _ _ _ => rfl

theorem ClockFree.push16 {v : State → Word} (hv : ∀ s c, v (s.withClock c) = v s) : ClockFree fun s => s.push16 (v s) :=
  .mapRead (read := fun s => s.mmu.writeWord (s.regs.sp - 2) (v s)) (f := fun s m => (s.setSP (s.regs.sp - 2)).withMmu m)
    (fun s c => by rw [hv]; rfl) fun _ _ _ => rfl

theorem ClockFree.pop16 {f : Word × State → State} (h : ∀ v s c, f (v, s.withClock c) = (f (v, s)).withClock c) :
    ClockFree fun s => s.pop16.map f := by
  intro s c
  simp only [State.pop16, show (s.withClock c).mmu.readWord (s.withClock c).regs.sp = s.mmu.readWord s.regs.sp from rfl]
  cases s.mmu.readWord s.regs.sp with
  | error e => rfl
  | ok v => exact congrArg Except.ok (h v (s.setSP (s.regs.sp + 2)) c)

theorem ClockFree.loadInto (r : Reg8) {addr : State → Word} (ha : ∀ s c, addr (s.withClock c) = addr s) :
    ClockFree (loadInto r addr) :=
  .mapRead (read := fun s => s.load (addr s)) (fun s c => by rw [ha]; rfl) fun _ _ _ => rfl

theorem ClockFree.storeFrom (r : Reg8) {addr : State → Word} (ha : ∀ s c, addr (s.withClock c) = addr s) :
    ClockFree (storeFrom r addr) := .store ha fun _ _ => rfl

theorem ClockFree.callBody (a : Word) : ClockFree (callBody a) := (ClockFree.push16 fun _ _ => rfl).map fun _ _ => rfl

theorem State.readOpnd_withClock (o : Opnd8) (s : State) (c : Nat) : (s.withClock c).readOpnd o = s.readOpnd o := by
  cases o <;> rfl

theorem ClockFree.writeOpnd (o : Opnd8) {f : State → State} {v : State → Byte}
    (hf : ∀ s c, f (s.withClock c) = (f s).withClock c) (hv : ∀ s c, v (s.withClock c) = v s) :
    ClockFree fun s => (f s).writeOpnd o (v s) := by
  intro s c
  simp only [hf, hv]
  cases o with
  | reg r => rfl
  | mHL => exact ClockFree.store (addr := fun u => u.regs.hl) (v := fun _ => v s) (fun _ _ => rfl) (fun _ _ => rfl) (f s) c

/-- A body that reads an operand and writes it. -/
theorem ClockFree.readWrite (o : Opnd8) {f : State → Byte → State} {g : State → Byte → Byte}
    (hf : ∀ v s c, f (s.withClock c) v = (f s v).withClock c) (hg : ∀ v s c, g (s.withClock c) v = g s v) :
    ClockFree fun s => (s.readOpnd o).bind fun v => (f s v).writeOpnd o (g s v) :=
  .bind (State.readOpnd_withClock o) fun v => .writeOpnd o (hf v) (hg v)

/-- R401 to R408: the flags of a shift are written after the operand. -/
theorem ClockFree.shift (op : ShiftOp) (o : Opnd8) : ClockFree fun s => (s.readOpnd o).bind fun v =>
    (s.writeOpnd o (shift8 op v s.flags.c).value).map fun t => t.setFlags (shift8 op v s.flags.c).flags := by
  refine .bind (State.readOpnd_withClock o) fun v s c => ?_
  exact ((ClockFree.writeOpnd o (f := id) (v := fun _ => (shift8 op v s.flags.c).value) (fun _ _ => rfl)
    (fun _ _ => rfl)).map (f := fun t => t.setFlags (shift8 op v s.flags.c).flags) fun _ _ => rfl) s c

theorem State.alu_withClock (op : AluOp) (v : Byte) (s : State) (c : Nat) :
    (s.withClock c).alu op v = (s.alu op v).withClock c := by
  cases op <;> rfl

/-! ### Instructions -/

/-- R131: an instruction adds as much to every clock. -/
theorem execute_withClock {k len n : Nat} {body : State → Except Fault State} {s t : State}
    (h : execute k len n body s = .next t) (c : Nat) (hb : ClockFree body) :
    execute k len n body (s.withClock c) = .next (t.withClock (c + (t.clock - s.clock))) := by
  have hfree : body ((s.withClock c).advance len) = (body (s.advance len)).map (·.withClock c) := hb (s.advance len) c
  have hsame : body (s.advance len) = (body (s.advance len)).map (·.withClock s.clock) := hb (s.advance len) s.clock
  unfold execute at h ⊢
  rw [hfree]
  cases hbody : body (s.advance len) with
  | error e =>
    rw [hbody] at h
    cases h
    simp only [Except.map, State.takeFault_clock, Nat.sub_self, Nat.add_zero]
    rfl
  | ok u =>
    rw [hbody] at h hsame
    cases h
    have hu : u = u.withClock s.clock := Except.ok.inj hsame
    have hclock : u.clock = s.clock := (congrArg State.clock hu).trans rfl
    simp only [Except.map, State.tick_clock, hclock, Nat.add_sub_cancel_left]
    rfl

theorem primary_withClock {len n : Nat} {body : State → Except Fault State} {s t : State}
    (h : primary len n body s = .next t) (c : Nat) (hb : ClockFree body) :
    primary len n body (s.withClock c) = .next (t.withClock (c + (t.clock - s.clock))) := execute_withClock h c hb

theorem prefixed_withClock {n : Nat} {body : State → Except Fault State} {s t : State}
    (h : prefixed n body s = .next t) (c : Nat) (hb : ClockFree body) :
    prefixed n body (s.withClock c) = .next (t.withClock (c + (t.clock - s.clock))) := execute_withClock h c hb

theorem conditional_withClock {len n m : Nat} {cc : Cond} {body : State → Except Fault State} {s t : State}
    (h : conditional len n m cc body s = .next t) (c : Nat) (hb : ClockFree body) :
    conditional len n m cc body (s.withClock c) = .next (t.withClock (c + (t.clock - s.clock))) := by
  unfold conditional at h ⊢
  rw [show (s.withClock c).flags = s.flags from rfl]
  split at h <;> rename_i hcc
  · rw [if_pos hcc]; exact primary_withClock h c hb
  · rw [if_neg hcc]; exact primary_withClock h c (.unfailing fun _ _ => rfl)

theorem shiftOpnd_withClock {op : ShiftOp} {o : Opnd8} {s t : State} (h : shiftOpnd op o s = .next t) (c : Nat) :
    shiftOpnd op o (s.withClock c) = .next (t.withClock (c + (t.clock - s.clock))) :=
  prefixed_withClock h c (ClockFree.shift op o)

theorem bitOpnd_withClock {b : Idx8} {o : Opnd8} {s t : State} (h : bitOpnd b o s = .next t) (c : Nat) :
    bitOpnd b o (s.withClock c) = .next (t.withClock (c + (t.clock - s.clock))) :=
  prefixed_withClock h c (ClockFree.mapRead (State.readOpnd_withClock o) fun _ _ _ => rfl)

theorem resOpnd_withClock {b : Idx8} {o : Opnd8} {s t : State} (h : resOpnd b o s = .next t) (c : Nat) :
    resOpnd b o (s.withClock c) = .next (t.withClock (c + (t.clock - s.clock))) :=
  prefixed_withClock h c (ClockFree.readWrite o (f := fun s _ => s) (fun _ _ _ => rfl) fun _ _ _ => rfl)

theorem setOpnd_withClock {b : Idx8} {o : Opnd8} {s t : State} (h : setOpnd b o s = .next t) (c : Nat) :
    setOpnd b o (s.withClock c) = .next (t.withClock (c + (t.clock - s.clock))) :=
  prefixed_withClock h c (ClockFree.readWrite o (f := fun s _ => s) (fun _ _ _ => rfl) fun _ _ _ => rfl)

/-- Every form adds as much to every clock, and its answer does not depend on the clock otherwise. -/
theorem execForm_withClock {f : Form} {s t : State} (h : execForm f s = .next t) (c : Nat) :
    execForm f (s.withClock c) = .next (t.withClock (c + (t.clock - s.clock))) := by
  cases f with
  | ldRR _ _ | ldRD8 _ _ | ldPairD16 _ _ | inc16 _ | dec16 _ | addHL _ =>
    simp only [execForm, ldRegReg, ldRegImm, ldPairImm, incPair, decPair, addHLPair] at h ⊢
    exact primary_withClock h c (.unfailing fun _ _ => rfl)
  | nop | halt | di | ei | stop _ | ldHLSP _ | ldSPHL | daa | cpl | scf | ccf | rlca | rrca | rla | rra | addSP _ | jp _
  | jpHL | jr _ =>
    exact primary_withClock h c (.unfailing fun _ _ => rfl)
  | ldRM r | ldAPtr p | ldhAM x | ldAMC | ldAM16 x => exact primary_withClock h c (.loadInto _ fun _ _ => rfl)
  | ldMR r | ldPtrA p | ldhMA x | ldMCA | ldM16A x => exact primary_withClock h c (.storeFrom _ fun _ _ => rfl)
  | ldMD8 x => exact primary_withClock h c (.store (v := fun _ => x) (fun _ _ => rfl) fun _ _ => rfl)
  | ldM16SP x => exact primary_withClock h c (.storeWord (addr := fun _ => x) (fun _ _ => rfl) fun _ _ => rfl)
  | ldMIncA | ldMDecA => exact primary_withClock h c ((ClockFree.storeFrom _ fun _ _ => rfl).map fun _ _ => rfl)
  | ldAMInc | ldAMDec => exact primary_withClock h c ((ClockFree.loadInto _ fun _ _ => rfl).map fun _ _ => rfl)
  | alu op o =>
    simp only [execForm, aluOpnd] at h ⊢
    exact primary_withClock h c (.mapRead (State.readOpnd_withClock o) (State.alu_withClock op))
  | aluD8 op x =>
    simp only [execForm, aluImm] at h ⊢
    exact primary_withClock h c (.unfailing (State.alu_withClock op x))
  | inc8 o | dec8 o =>
    simp only [execForm, incOpnd, decOpnd] at h ⊢
    exact primary_withClock h c (.readWrite o (fun _ _ _ => rfl) fun _ _ _ => rfl)
  | call x | rst x => exact primary_withClock h c (.callBody _)
  | push p =>
    simp only [execForm, pushStep] at h ⊢
    exact primary_withClock h c (ClockFree.push16 (v := fun s => s.regs.getStack p) fun _ _ => rfl)
  | ret | reti => exact primary_withClock h c (.pop16 fun _ _ _ => rfl)
  | pop p =>
    simp only [execForm, popStep] at h ⊢
    exact primary_withClock h c (ClockFree.pop16 (f := fun (v, t) => t.setStack p v) fun _ _ _ => rfl)
  | jpCC cc x | jrCC cc x => exact conditional_withClock h c (.unfailing fun _ _ => rfl)
  | callCC cc x => exact conditional_withClock h c (.callBody x)
  | retCC cc => exact conditional_withClock h c (.pop16 fun _ _ _ => rfl)
  | shift op o => exact shiftOpnd_withClock h c
  | bit b o => exact bitOpnd_withClock h c
  | res b o => exact resOpnd_withClock h c
  | set b o => exact setOpnd_withClock h c
  | cbPrefix x =>
    simp only [execForm, cbExecute] at h ⊢
    split at h
    · exact shiftOpnd_withClock h c
    · exact bitOpnd_withClock h c
    · exact resOpnd_withClock h c
    · exact setOpnd_withClock h c
  | illegal op =>
    cases h
    simp only [State.takeFault_clock, Nat.sub_self, Nat.add_zero]
    rfl

/-! ### The step -/

/-- R506: a dispatch stores IF, then pushes PC; neither looks at the clock. -/
theorem ClockFree.dispatch : ClockFree State.dispatch := by
  intro s c
  have hstore : ((s.withClock c).setIme false false).store ifAddr
      ((s.withClock c).mmu.iflag &&& ~~~(1#8 <<< lowestBit (s.withClock c).pending)) =
        ((s.setIme false false).store ifAddr (s.mmu.iflag &&& ~~~(1#8 <<< lowestBit s.pending))).map (·.withClock c) :=
    ClockFree.store (addr := fun _ => ifAddr) (v := fun u => u.mmu.iflag &&& ~~~(1#8 <<< lowestBit u.pending))
      (fun _ _ => rfl) (fun _ _ => rfl) (s.setIme false false) c
  have hpush := (ClockFree.push16 (v := fun _ => s.regs.pc) fun _ _ => rfl).map
    (f := fun u => u.jump (vector (lowestBit s.pending))) fun _ _ => rfl
  simp only [State.dispatch, hstore]
  cases (s.setIme false false).store ifAddr (s.mmu.iflag &&& ~~~(1#8 <<< lowestBit s.pending)) with
  | error e => rfl
  | ok t => exact hpush t c

theorem State.fetch_withClock (s : State) (c : Nat) : (s.withClock c).fetch = s.fetch := rfl

theorem State.awake_withClock (s : State) (c : Nat) : (s.withClock c).awake = s.awake.withClock c := rfl

theorem settle_withClock (s t : State) (c d : Nat) : settle (s.withClock c) (t.withClock d) = (settle s t).withClock d := by
  unfold settle
  rw [show (t.withClock d).fault = t.fault from rfl]
  cases t.fault with
  | some e => rfl
  | none =>
    show (if s.eiPending && t.eiPending then _ else _) = _
    split <;> rfl

theorem takeFault_withClock (s : State) (k : Nat) (e : Fault) (c : Nat) :
    (s.withClock c).takeFault k e = (s.takeFault k e).withClock (c + ((s.takeFault k e).clock - s.clock)) := by
  rw [State.takeFault_clock, Nat.sub_self]; rfl

theorem interruptStep_withClock {s t : State} (h : interruptStep s s.awake = .next t) (c : Nat) :
    interruptStep (s.withClock c) (s.withClock c).awake = .next (t.withClock (c + (t.clock - s.clock))) := by
  unfold interruptStep at h ⊢
  rw [State.awake_withClock, ClockFree.dispatch s.awake c]
  cases hd : s.awake.dispatch with
  | error e =>
    rw [hd] at h
    cases h
    exact congrArg _ (takeFault_withClock s 0 e c)
  | ok u =>
    rw [hd] at h
    cases h
    have hclock : u.clock = s.clock := (State.dispatch_ok hd).2.1
    simp only [Except.map, State.tick_clock, hclock, Nat.add_sub_cancel_left]
    rfl

theorem instructionStep_withClock {s t : State} (h : instructionStep s s.awake = .next t) (c : Nat) :
    instructionStep (s.withClock c) (s.withClock c).awake = .next (t.withClock (c + (t.clock - s.clock))) := by
  unfold instructionStep at h ⊢
  rw [State.awake_withClock, State.fetch_withClock]
  cases hq : s.awake.fetch with
  | error p =>
    rw [hq] at h
    cases h
    exact congrArg _ (takeFault_withClock s p.1 p.2 c)
  | ok i =>
    obtain ⟨u, hu, -⟩ := exec_next i s.awake
    have hmoved : exec i (s.awake.withClock c) = .next (u.withClock (c + (u.clock - s.clock))) := by
      rw [exec_eq_execForm] at hu ⊢
      exact execForm_withClock hu c
    simp only [hq, hu] at h
    cases h
    simp only [hmoved, settle_withClock, settle_clock]

theorem activeStep_withClock {s t : State} (h : activeStep s s.awake = .next t) (c : Nat) :
    activeStep (s.withClock c) (s.withClock c).awake = .next (t.withClock (c + (t.clock - s.clock))) := by
  unfold activeStep at h ⊢
  split at h <;> rename_i hi
  · exact (if_pos hi).trans (interruptStep_withClock h c)
  · exact (if_neg hi).trans (instructionStep_withClock h c)

/-- R574: a step adds as much to every clock, and its answer does not depend on the clock otherwise. -/
theorem step_withClock {s t : State} (h : step s = .next t) (c : Nat) :
    step (s.withClock c) = .next (t.withClock (c + (t.clock - s.clock))) := by
  obtain ⟨hf, -⟩ := step_cases h
  have active (hr : s.runState = .running ∨ (s.runState = .halted ∧ s.pending ≠ 0)) :
      step (s.withClock c) = .next (t.withClock (c + (t.clock - s.clock))) := by
    rw [step_active hf hr] at h
    rw [step_active (s := s.withClock c) hf hr]
    exact activeStep_withClock h c
  cases hr : s.runState with
  | running => exact active (.inl hr)
  | stopped =>
    rw [step_stopped hf hr] at h
    cases h
    rw [step_stopped (s := s.withClock c) hf hr, Nat.sub_self]
    rfl
  | halted =>
    by_cases hp : s.pending = 0
    · rw [step_idle hf hr hp] at h
      cases h
      rw [step_idle (s := s.withClock c) hf hr hp, State.tick_clock, Nat.add_sub_cancel_left]
      rfl
    · exact active (.inr ⟨hr, hp⟩)

/-- Settles O48: `step_withClock`; and a step is refused for its fault latch only, which is no part of the clock. -/
theorem stepIgnoresTheClock : Obligations.StepIgnoresTheClock := by
  refine fun s c => ⟨fun t h => step_withClock h c, fun r h => ?_⟩
  show step (s.withClock c) = .refused r
  cases hf : s.fault with
  | none =>
    obtain ⟨t, ht, -⟩ := step_next hf
    rw [ht] at h; cases h
  | some e =>
    rw [← h, step_faulted hf]
    exact step_faulted (s := s.withClock c) hf

end Sys2Proof.Machine
end

section
/-! O32, O33, O34, O35. The decoder and the encoder of 30_encoding.md: the forms of the opcode fields, and each inverting the
other. -/

namespace Sys2Proof

/-! ### Decoding what was encoded (R120 to R129, R140, R141) -/

theorem imm16_lo8_hi8 (w : Word) : imm16 (lo8 w) (hi8 w) = w := Machine.hi8_append_lo8 w

/-- The three bytes of a form with a 16-bit operand, once its opcode's length and form are known. -/
theorem decode_withImm16 {op : Byte} {f : Word → Form} (hlen : opcodeLength op = 3)
    (hform : ∀ b1 b2, decodeForm op b1 b2 = f (imm16 b1 b2)) (w : Word) (rest : List Byte) :
    decode (withImm16 op w ++ rest) = .ok ((f w).instr, rest) := by
  simp only [withImm16, List.cons_append, List.nil_append, decode, hlen, decode3, hform, imm16_lo8_hi8]

/-- Every form but that of the 0xCB row is read back from its bytes, with what follows them left over. -/
theorem Form.decode_bytes {f : Form} (hf : ∀ x, f ≠ .cbPrefix x) (rest : List Byte) :
    decode (f.bytes ++ rest) = .ok (f.instr, rest) := by
  cases f with
  | cbPrefix x => exact absurd rfl (hf x)
  | nop | halt | di | ei | stop _ | ldMD8 _ | ldMIncA | ldAMInc | ldMDecA | ldAMDec | ldhMA _ | ldhAM _ | ldMCA | ldAMC
  | ldHLSP _ | ldSPHL | daa | cpl | scf | ccf | rlca | rrca | rla | rra | addSP _ | jpHL | jr _ | ret | reti => rfl
  | ldM16A w | ldAM16 w | ldM16SP w | jp w | call w => exact decode_withImm16 rfl (fun _ _ => rfl) w rest
  | ldPairD16 p w => cases p <;> exact decode_withImm16 rfl (fun _ _ => rfl) w rest
  | jpCC cc w | callCC cc w => cases cc <;> exact decode_withImm16 rfl (fun _ _ => rfl) w rest
  | ldRR dst src => cases dst <;> cases src <;> rfl
  | ldRD8 r _ | ldRM r | ldMR r => cases r <;> rfl
  | ldAPtr p | ldPtrA p | inc16 p | dec16 p | addHL p | push p | pop p => cases p <;> rfl
  | jrCC cc _ | retCC cc => cases cc <;> rfl
  | inc8 o | dec8 o => rcases o with (_ | _ | _ | _ | _ | _ | _) | _ <;> rfl
  | alu op o => cases op <;> rcases o with (_ | _ | _ | _ | _ | _ | _) | _ <;> rfl
  | aluD8 op _ => cases op <;> rfl
  | rst t => cases t <;> rfl
  | shift op o => cases op <;> rcases o with (_ | _ | _ | _ | _ | _ | _) | _ <;> rfl
  | bit b o | res b o | set b o => cases b <;> rcases o with (_ | _ | _ | _ | _ | _ | _) | _ <;> rfl
  | illegal op => cases op <;> rfl

/-- R133: only the 0xCB row itself is ill-formed. -/
theorem Instr.form_ne_cbPrefix {i : Instr} (h : i.wellFormed = true) (x : Byte) : i.form ≠ .cbPrefix x := by
  intro hi
  rw [← Instr.instr_form i, hi] at h
  cases h

/-- Settles O34: by form (`Form.decode_bytes`), the 0xCB row itself being the one that is not well formed. -/
theorem decodeInvertsEncode : Obligations.DecodeInvertsEncode := by
  intro i rest hi
  have h := Form.decode_bytes (Instr.form_ne_cbPrefix hi) rest
  rwa [Instr.instr_form] at h

/-! ### Encoding what was decoded (R123, R133, R136) -/

theorem withImm16_imm16 (op b1 b2 : Byte) : withImm16 op (imm16 b1 b2) = [op, b1, b2] := by
  simp only [withImm16, imm16, Machine.lo8_append, Machine.hi8_append]

/-- R121: an opcode byte is its three fields. -/
theorem opcodeOf_fields (op : Byte) : opcodeOf (fieldX op) (fieldY op).num (fieldZ op).num = op := by
  revert op; decide

theorem fieldX_lt (op : Byte) : fieldX op < 4 := by
  unfold fieldX; have := op.isLt; omega

theorem Idx8.code_opnd (z : Idx8) : z.opnd.code = z.num := by cases z <;> rfl

theorem Idx8.code_aluOp (y : Idx8) : y.aluOp.code = y.num := by cases y <;> rfl

theorem Idx8.code_shiftOp (y : Idx8) : y.shiftOp.code = y.num := by cases y <;> rfl

/-- R133, R134, R141: the form of a CB byte has 0xCB and that byte for its encoding. -/
theorem bytes_cbForm (cb : Byte) : (cbForm cb).bytes = [0xCB, cb] := by
  have hcb := opcodeOf_fields cb
  have hx := fieldX_lt cb
  unfold cbForm
  generalize fieldX cb = x at hcb hx
  match x, hx with
  | 0, _ => simp only [Form.bytes, Idx8.code_shiftOp, Idx8.code_opnd, hcb]
  | 1, _ | 2, _ | 3, _ => simp only [Form.bytes, Idx8.code_opnd, hcb]

theorem length_cbForm (cb : Byte) : (cbForm cb).length = 2 := by
  unfold cbForm; split <;> rfl

/-- R140, rows 0x to 3x. -/
theorem bytes_quarter0 (y z : Idx8) (b1 b2 : Byte) :
    (quarter0 y z b1 b2).bytes = [opcodeOf 0 y.num z.num, b1, b2].take (quarter0 y z 0 0).length := by
  cases z with
  | i0 =>
    cases y with
    | i1 => exact withImm16_imm16 ..
    | _ => rfl
  | i1 =>
    cases y with
    | i0 | i2 | i4 | i6 => exact withImm16_imm16 ..
    | _ => rfl
  | _ => cases y <;> rfl

/-- R140, rows 4x to 7x. -/
theorem bytes_quarter1 (y z : Idx8) (b1 b2 : Byte) :
    (quarter1 y z).bytes = [opcodeOf 1 y.num z.num, b1, b2].take (quarter1 y z).length := by
  cases y <;> cases z <;> rfl

/-- R140, rows Cx to Fx. -/
theorem bytes_quarter3 (y z : Idx8) (b1 b2 : Byte) :
    (quarter3 y z b1 b2).bytes = [opcodeOf 3 y.num z.num, b1, b2].take (quarter3 y z 0 0).length := by
  cases z with
  | i2 =>
    cases y with
    | i4 | i6 => rfl
    | _ => exact withImm16_imm16 ..
  | i3 =>
    cases y with
    | i0 => exact withImm16_imm16 ..
    | i1 => exact (bytes_cbForm b1).trans (by rw [quarter3, length_cbForm]; rfl)
    | _ => rfl
  | i4 =>
    cases y with
    | i0 | i1 | i2 | i3 => exact withImm16_imm16 ..
    | _ => rfl
  | i5 =>
    cases y with
    | i1 => exact withImm16_imm16 ..
    | _ => rfl
  | _ => cases y <;> rfl

/-- R123: the encoding of what three bytes decode to is the bytes that its opcode counts in. -/
theorem bytes_decodeForm (op b1 b2 : Byte) : (decodeForm op b1 b2).bytes = [op, b1, b2].take (opcodeLength op) := by
  have hop := opcodeOf_fields op
  have hx := fieldX_lt op
  unfold opcodeLength decodeForm
  generalize fieldX op = x, fieldY op = y, fieldZ op = z at hop hx ⊢
  subst hop
  match x, hx with
  | 0, _ => exact bytes_quarter0 y z b1 b2
  | 1, _ => exact bytes_quarter1 y z b1 b2
  | 2, _ => simp only [Form.bytes, Form.length, Idx8.code_aluOp, Idx8.code_opnd, List.take_succ_cons, List.take_zero]
  | 3, _ => exact bytes_quarter3 y z b1 b2

/-- R133: no byte decodes to the 0xCB row itself. -/
theorem decodeForm_ne_cbPrefix (op b1 b2 x : Byte) : decodeForm op b1 b2 ≠ .cbPrefix x := by
  have hcb : cbForm b1 ≠ .cbPrefix x := by unfold cbForm; split <;> exact Form.noConfusion
  unfold decodeForm
  split
  · cases fieldZ op <;> cases fieldY op <;> exact Form.noConfusion
  · cases fieldZ op <;> cases fieldY op <;> exact Form.noConfusion
  · exact Form.noConfusion
  · generalize fieldY op = y, fieldZ op = z
    cases z with
    | i3 =>
      cases y with
      | i1 => exact hcb
      | _ => exact Form.noConfusion
    | _ => cases y <;> exact Form.noConfusion

theorem Instr.wellFormed_of_form {i : Instr} (h : ∀ x, i.form ≠ .cbPrefix x) : i.wellFormed = true := by
  unfold Instr.wellFormed
  split
  · exact absurd rfl (h _)
  · rfl

theorem Form.length_bounds (f : Form) : 1 ≤ f.length ∧ f.length ≤ 3 := by
  unfold Form.length; split <;> decide

theorem opcodeLength_cases (op : Byte) : opcodeLength op = 1 ∨ opcodeLength op = 2 ∨ opcodeLength op = 3 := by
  have := Form.length_bounds (decodeForm op 0 0)
  unfold opcodeLength
  omega

/-- What a list that decodes is: the bytes that its opcode counts in, and the rest. -/
theorem decode_eq_ok {bytes rest : List Byte} {i : Instr} (h : decode bytes = .ok (i, rest)) :
    ∃ op b1 b2, i = decode3 op b1 b2 ∧ bytes = [op, b1, b2].take (opcodeLength op) ++ rest := by
  unfold decode at h
  split at h
  · cases h
  · rename_i op tail
    split at h
    · rename_i hlen
      cases h
      exact ⟨op, 0, 0, rfl, by rw [hlen]; rfl⟩
    · rename_i hlen
      cases h
      exact ⟨op, _, 0, rfl, by rw [hlen]; rfl⟩
    · rename_i hlen
      cases h
      exact ⟨op, _, _, rfl, by rw [hlen]; rfl⟩
    · cases h

/-- R136: three bytes always decode. -/
theorem decode_three (op b1 b2 : Byte) (rest : List Byte) : ∃ i rest', decode (op :: b1 :: b2 :: rest) = .ok (i, rest') := by
  obtain h | h | h := opcodeLength_cases op <;> simp [decode, h]

/-- Settles O35: the bytes of a decoded form are the bytes read (`bytes_decodeForm`), and no byte is refused (`decode_three`). -/
theorem encodeInvertsDecode : Obligations.EncodeInvertsDecode := by
  refine ⟨fun bytes i rest h => ?_, decode_three, fun bytes e h => ?_⟩
  · obtain ⟨op, b1, b2, rfl, rfl⟩ := decode_eq_ok h
    refine ⟨Instr.wellFormed_of_form fun x => ?_, ?_, Form.length_bounds _⟩
    · rw [decode3, Form.form_instr]; exact decodeForm_ne_cbPrefix op b1 b2 x
    · rw [encode, decode3, Form.form_instr, bytes_decodeForm]
  · match bytes with
    | [] | [_] | [_, _] => simp
    | op :: b1 :: b2 :: rest =>
      obtain ⟨i, rest', hok⟩ := decode_three op b1 b2 rest
      rw [hok] at h; cases h

/-! ### Rows written out (R135, R140, R141) -/

/-- Settles O33: nineteen words, evaluated. -/
theorem sampleWordsDecode : Obligations.SampleWordsDecode := by
  unfold Obligations.SampleWordsDecode
  decide

theorem decodeForm_illegalByte (op : IllegalByte) (b1 b2 : Byte) : decodeForm op.byte b1 b2 = .illegal op := by
  cases op <;> rfl

/-- R135: the eleven bytes differ, since each decodes to a row of its own. -/
theorem IllegalByte.byte_injective : Function.Injective IllegalByte.byte := by
  intro op op' h
  have hform := decodeForm_illegalByte op 0 0
  rw [h, decodeForm_illegalByte] at hform
  exact (Form.illegal.inj hform).symm

/-- Settles O32: each byte by itself; the row's meaning is the fault of its own byte. -/
theorem illegalBytesFault : Obligations.IllegalBytesFault := by
  intro s op b1 b2
  refine ⟨?_, congrArg Form.instr (decodeForm_illegalByte op b1 b2), Machine.exec_instr (.illegal op) s,
    fun op' h => IllegalByte.byte_injective h⟩
  cases op <;> decide

end Sys2Proof
end

section
/-! O52, O53, O54, O55, O58. The memory of 20_memory.md: where an access finds a byte, what a read gives after a write, the mirror of
working RAM, and the images. -/

namespace Sys2Proof.Machine

/-! ### Where an access finds a byte (R75, R76, R77, R87) -/

theorem slotOf_rom {a : Word} (h : a.toNat ≤ 0x7FFF) : slotOf a = .rom a.toNat := by
  simp only [slotOf, if_pos h]

theorem Mmu.overlaid_iff (m : Mmu) (a : Word) : m.overlaid a = true ↔ a.toNat ≤ 0x00FF ∧ m.inBios = true := by
  simp [Mmu.overlaid, and_comm]

theorem Mmu.readByte_overlaid {m : Mmu} {a : Word} {img : Memory} (ho : m.overlaid a = true) (himg : m.bios = some img) :
    m.readByte a = .ok (Memory.get img a.toNat) := by
  simp only [Mmu.readByte, if_pos ho, himg]

theorem Mmu.readByte_plain {m : Mmu} {a : Word} (ho : m.overlaid a = false) : m.readByte a = m.readSlot a (slotOf a) := by
  simp only [Mmu.readByte, ho, Bool.false_eq_true, if_false]

theorem Mmu.readSlot_ok {m : Mmu} {a : Word} (h : a.toNat ≤ 0x7FFF → m.rom.isSome = true) :
    ∃ v, m.readSlot a (slotOf a) = .ok v := by
  by_cases ha : a.toNat ≤ 0x7FFF
  · obtain ⟨r, hr⟩ := Option.isSome_iff_exists.1 (h ha)
    exact ⟨Memory.get r a.toNat, by simp only [slotOf_rom ha, Mmu.readSlot, hr]⟩
  · cases hs : slotOf a with
    | rom i =>
      simp only [slotOf, if_neg ha] at hs
      repeat' split at hs
      all_goals cases hs
    | _ => exact ⟨_, rfl⟩

theorem Mmu.readByte_readable {m : Mmu} {a : Word} (h : m.readable a) : ∃ v, m.readByte a = .ok v := by
  unfold Mmu.readable at h
  split at h <;> rename_i ho <;> rw [← Mmu.overlaid_iff] at ho
  · obtain ⟨img, himg⟩ := Option.isSome_iff_exists.1 h
    exact ⟨_, Mmu.readByte_overlaid ho himg⟩
  · rw [Mmu.readByte_plain (Bool.eq_false_iff.2 ho)]
    exact Mmu.readSlot_ok h

theorem Mmu.readByte_unreadable {m : Mmu} {a : Word} (h : ¬ m.readable a) : m.readByte a = .error (.unmappedRegion a) := by
  unfold Mmu.readable at h
  split at h <;> rename_i ho <;> rw [← Mmu.overlaid_iff] at ho
  · have himg : m.bios = none := by simpa using h
    simp only [Mmu.readByte, if_pos ho, himg]
  · push Not at h
    obtain ⟨ha, hr⟩ := h
    have hrom : m.rom = none := by simpa using hr
    simp only [Mmu.readByte_plain (Bool.eq_false_iff.2 ho), slotOf_rom ha, Mmu.readSlot, hrom]

/-- Settles O52: reads by `Mmu.readByte_readable` and `Mmu.readByte_unreadable`, writes by their counterparts in Laws/Frame. -/
theorem accessesFailOnlyWithoutABuffer : Obligations.AccessesFailOnlyWithoutABuffer := by
  intro m a v
  exact ⟨Mmu.readByte_readable, Mmu.readByte_unreadable, fun h => Mmu.writeByte_writable h v,
    fun h => Mmu.writeByte_unwritable h v⟩

/-! ### Read after write (R88 to R91, R98) -/

/-- R83: the range with no storage. -/
theorem slotOf_eq_unused_iff (a : Word) : slotOf a = .unused ↔ 0xFEA0 ≤ a.toNat ∧ a.toNat ≤ 0xFEFF := by
  obtain ⟨ha, hs⟩ | ⟨ha, ha', hs⟩ | ⟨ha, ha', hs⟩ | ⟨ha, ha', hs⟩ | ⟨ha, ha', hs⟩ | ⟨ha, ha', hs⟩ | ⟨ha, ha', hs⟩ |
    ⟨ha, ha', hs⟩ | ⟨ha, hs⟩ := slotOf_cases a <;>
  · simp only [hs, reduceCtorEq, false_iff, true_iff]
    omega

/-- R98: what a read of an address gives after a byte is written there: 0 in the unused range, what it gave before under the
overlay, and the byte elsewhere. -/
def Mmu.readBack (m : Mmu) (a : Word) (written : Byte) : Except Fault Byte :=
  if 0xFEA0 ≤ a.toNat ∧ a.toNat ≤ 0xFEFF then .ok 0
  else if a.toNat ≤ 0x00FF ∧ m.inBios = true then m.readByte a
  else .ok written

/-- R84: a write below 0xFF50 leaves the overlay as it was. -/
theorem Mmu.inBios_writeByte_low {m m' : Mmu} {a : Word} {v : Byte} (h : m.writeByte a v = .ok m') (ha : a.toNat ≤ 0x00FF) :
    m'.inBios = m.inBios := by
  obtain ⟨-, -, hin⟩ := Mmu.writeByte_latch h
  have hboot : a ≠ bootAddr := by rintro rfl; exact absurd ha (by decide)
  simp [hin, hboot]

/-- D4: under the overlay a write is not seen. -/
theorem Mmu.readByte_writeByte_overlaid {m m' : Mmu} {a : Word} {v : Byte} (h : m.writeByte a v = .ok m')
    (ho : m.overlaid a = true) : m'.readByte a = m.readByte a := by
  obtain ⟨hbios, -, -⟩ := Mmu.writeByte_latch h
  have ho' : m'.overlaid a = true := by
    rw [Mmu.overlaid_iff] at ho ⊢
    exact ⟨ho.1, (Mmu.inBios_writeByte_low h ho.1).trans ho.2⟩
  simp only [Mmu.readByte, if_pos ho, if_pos ho', hbios]

/-- R98: the byte law. -/
theorem Mmu.readByte_writeByte {m m' : Mmu} {a : Word} {v : Byte} (h : m.writeByte a v = .ok m') :
    m'.readByte a = m.readBack a v := by
  unfold Mmu.readBack
  split
  · rename_i hu
    exact Mmu.readByte_unused ((slotOf_eq_unused_iff a).2 hu)
  split
  · rename_i ho
    exact Mmu.readByte_writeByte_overlaid h ((m.overlaid_iff a).2 ho)
  · rename_i hu ho
    refine Mmu.readByte_writeByte_same h (mt (slotOf_eq_unused_iff a).1 hu) (Bool.eq_false_iff.2 fun ho' => ho ?_)
    obtain ⟨hlow, hin⟩ := (m'.overlaid_iff a).1 ho'
    exact ⟨hlow, Mmu.inBios_writeByte h hin⟩

theorem Mmu.readBack_kept {m : Mmu} {a : Word} (hu : ¬ (0xFEA0 ≤ a.toNat ∧ a.toNat ≤ 0xFEFF))
    (ho : ¬ (a.toNat ≤ 0x00FF ∧ m.inBios = true)) (v : Byte) : m.readBack a v = .ok v := by
  rw [Mmu.readBack, if_neg hu, if_neg ho]

/-- R83: a write to the unused range stores nothing. -/
theorem Mmu.writeByte_unused {m m' : Mmu} {a : Word} {v : Byte} (h : m.writeByte a v = .ok m') (hu : slotOf a = .unused) :
    m' = m := by
  simp only [Mmu.writeByte, hu] at h
  exact (Except.ok.inj h).symm

/-- D16: an address and the next one name two bytes. -/
theorem sameByte_succ (a : Word) : sameByte a (a + 1) = false ∧ sameByte (a + 1) a = false := by
  have ha := a.isLt
  constructor
  · simp [sameByte]; omega
  · simp [sameByte]; omega

/-- A write leaves what a write to the next address would read back: the two name different bytes, and a write that ends the overlay
is far from it. -/
theorem Mmu.readBack_writeByte_succ {m m' : Mmu} {a : Word} {v : Byte} (h : m.writeByte a v = .ok m') (w : Byte) :
    m'.readBack (a + 1) w = m.readBack (a + 1) w := by
  by_cases hlow : (a + 1).toNat ≤ 0x00FF
  · have hboot : a ≠ bootAddr := by rintro rfl; exact absurd hlow (by decide)
    have hin : m'.inBios = m.inBios := by simp [(Mmu.writeByte_latch h).2.2, hboot]
    have hread : m'.readByte (a + 1) = m.readByte (a + 1) :=
      Mmu.sameOutside_one h _ (List.forall_mem_singleton.2 (sameByte_succ a).1)
        fun hmem => absurd (List.mem_singleton.1 hmem).symm hboot
    simp only [Mmu.readBack, hin, hread]
  · simp only [Mmu.readBack, hlow, false_and, if_false]

/-- R98: the word law, byte by byte. -/
theorem Mmu.readByte_writeWord {m m' : Mmu} {a v : Word} (h : m.writeWord a v = .ok m') :
    m'.readByte a = m.readBack a (lo8 v) ∧ m'.readByte (a + 1) = m.readBack (a + 1) (hi8 v) := by
  obtain ⟨m1, h1, h2⟩ := Mmu.writeWord_ok h
  constructor
  · rw [← Mmu.readByte_writeByte h1]
    refine Mmu.sameOutside_one h2 _ (List.forall_mem_singleton.2 (sameByte_succ a).2) fun hmem _ => ?_
    have hboot := List.mem_singleton.1 hmem
    bv_omega
  · rw [Mmu.readByte_writeByte h2, Mmu.readBack_writeByte_succ h1]

theorem byte_ofNat_mod (n : Nat) : BitVec.ofNat 8 (n % 0x100) = BitVec.ofNat 8 n := by
  apply BitVec.eq_of_toNat_eq
  simp

/-- Settles O53: the byte law (`Mmu.readByte_writeByte`) and the word law (`Mmu.readByte_writeWord`) by what is read back
(`Mmu.readBack`). -/
theorem memoryLaws : Obligations.MemoryLaws := by
  intro m m' a v b lo hi kept readBack
  rw [byte_ofNat_mod, ← lo8_eq, ← hi8_eq, ← append_eq_ofNat]
  refine ⟨fun h hk => ?_, fun h hu hu' => ?_, fun h ha hin => ?_, fun h hk hk' => ?_, fun h hlo hhi => ?_, Mmu.readWord_ok,
    fun m1 h1 h2 => ?_⟩
  · rw [Mmu.readByte_writeByte h, Mmu.readBack_kept hk.1 hk.2]
  · have hslot := (slotOf_eq_unused_iff a).2 ⟨hu, hu'⟩
    exact ⟨Mmu.writeByte_unused h hslot, Mmu.readByte_unused hslot⟩
  · exact Mmu.readByte_writeByte_overlaid h ((m.overlaid_iff a).2 ⟨ha, hin⟩)
  · obtain ⟨hlo, hhi⟩ := Mmu.readByte_writeWord h
    rw [Mmu.readBack_kept hk.1 hk.2] at hlo
    rw [Mmu.readBack_kept hk'.1 hk'.2] at hhi
    rw [Mmu.readWord_ok hlo hhi, hi8_append_lo8]
  · obtain ⟨hlo', hhi'⟩ := Mmu.readByte_writeWord h
    exact Mmu.readWord_ok (hlo'.trans hlo) (hhi'.trans hhi)
  · simp only [Mmu.writeWord, h1, Except.bind, h2]

/-! ### The mirror of working RAM (R82) -/

/-- R82: an address of working RAM or its mirror, by its cell. -/
theorem Mmu.access_wram {a : Word} {i : Nat} (h : slotOf a = .wram i) (m : Mmu) (v : Byte) :
    m.readByte a = .ok (Memory.get m.wram i) ∧ m.writeByte a v = .ok { m with wram := Memory.set m.wram i v } := by
  have ho : m.overlaid a = false := by
    refine Bool.eq_false_iff.2 fun ho => ?_
    rw [slotOf_rom (by have := ((m.overlaid_iff a).1 ho).1; omega)] at h
    cases h
  constructor
  · simp only [Mmu.readByte_plain ho, h, Mmu.readSlot]
  · simp only [Mmu.writeByte, h]

theorem slotOf_wram {a : Word} (h : 0xC000 ≤ a.toNat) (h' : a.toNat ≤ 0xFDFF) : slotOf a = .wram (a.toNat % 0x2000) := by
  have hrom : ¬ a.toNat ≤ 0x7FFF := by omega
  have hvram : ¬ a.toNat ≤ 0x9FFF := by omega
  have heram : ¬ a.toNat ≤ 0xBFFF := by omega
  simp only [slotOf, if_neg hrom, if_neg hvram, if_neg heram, if_pos h', ite_self]

/-- Settles O54: the two addresses have one cell (`slotOf_wram`). -/
theorem mirrorReachesWorkingRam : Obligations.MirrorReachesWorkingRam := by
  intro m k v hk high low
  have hhigh : high.toNat = 0xE000 + k := by simp only [high, BitVec.toNat_ofNat]; omega
  have hlow : low.toNat = 0xC000 + k := by simp only [low, BitVec.toNat_ofNat]; omega
  have hslot : slotOf high = .wram k := by
    rw [slotOf_wram (by omega) (by omega), hhigh]; congr 1; omega
  have hslot' : slotOf low = .wram k := by
    rw [slotOf_wram (by omega) (by omega), hlow]; congr 1; omega
  obtain ⟨hread, hwrite⟩ := Mmu.access_wram hslot m v
  obtain ⟨hread', hwrite'⟩ := Mmu.access_wram hslot' m v
  refine ⟨hread.trans hread'.symm, hwrite.trans hwrite'.symm, _, hwrite, ?_⟩
  rw [(Mmu.access_wram hslot' _ v).1, Memory.get_set, if_pos rfl]

/-! ### What else a write changes (R82, R84, R93) -/

/-- R84, D1: a write to 0xFF50 ends the overlay, so 0x0000 to 0x00FF read the ROM, which it does not touch. -/
theorem Mmu.readByte_writeByte_boot {m m' : Mmu} {v : Byte} (h : m.writeByte bootAddr v = .ok m') {b : Word} {rom : Memory}
    (hb : b.toNat ≤ 0x00FF) (hrom : m.rom = some rom) : m'.readByte b = .ok (Memory.get rom b.toNat) := by
  have hm' : m'.inBios = false ∧ m'.rom = m.rom := by
    simp only [Mmu.writeByte, slotOf_bootAddr, if_true] at h
    cases h
    exact ⟨rfl, rfl⟩
  have ho : m'.overlaid b = false := by simp [Mmu.overlaid, hm'.1]
  simp only [Mmu.readByte_plain ho, slotOf_rom (show b.toNat ≤ 0x7FFF by omega), Mmu.readSlot, hm'.2, hrom]

/-- Settles O55: the frame and the latch of one write, and `Mmu.readByte_writeByte_boot`. -/
theorem writesChangeOneByte : Obligations.WritesChangeOneByte := by
  intro m m' a v h
  obtain ⟨hbios, -, hin⟩ := Mmu.writeByte_latch h
  refine ⟨Mmu.sameOutside_one h, hbios, ?_, ?_⟩
  · by_cases ha : a = bootAddr
    · simp [hin, ha, bootAddr]
    · rw [if_neg (show ¬ a = 0xFF50 from ha)]
      simp [hin, ha]
  · rintro rfl b rom hb hrom
    exact Mmu.readByte_writeByte_boot h hb hrom

/-! ### Images (R94, R95, R508) -/

theorem Memory.get_ofBytes_zero {bytes : List Byte} {i : Nat} (h : i < bytes.length) :
    Memory.get (Memory.ofBytes 0 bytes) i = bytes[i] := by
  have hget := Memory.get_ofBytes bytes 0 i
  rw [Nat.zero_add] at hget
  rw [hget, List.getD_eq_getElem _ _ h]

/-- Settles O58: an image is its list of bytes (`Memory.get_ofBytes_zero`). -/
theorem imagesAreLoadedWhole : Obligations.ImagesAreLoadedWhole := by
  intro s bytes
  exact ⟨fun h => if_neg h, fun h => if_neg h, fun h => ⟨_, if_pos h, fun _ => Memory.get_ofBytes_zero⟩,
    fun h => ⟨_, if_pos h, fun _ => Memory.get_ofBytes_zero⟩⟩

end Sys2Proof.Machine
end

section
/-! O39, O40. What an instruction leaves as it was, by its form: F, the memory, the run state and the two interrupt latches. -/

namespace Sys2Proof

/-- Which parts of the state an instruction leaves as they were. -/
structure Kept where
  flags : Bool
  memory : Bool
  runState : Bool
  ime : Bool
  eiPending : Bool

/-- R37: the forms that write no flag. -/
def Form.keepsFlags : Form → Bool
  | .alu _ _ | .aluD8 _ _ | .inc8 _ | .dec8 _ | .daa | .cpl | .scf | .ccf | .rlca | .rrca | .rla | .rra | .addHL _ | .addSP _
  | .ldHLSP _ | .shift _ _ | .bit _ _ | .cbPrefix _ => false
  | .pop p => decide (p ≠ .af)
  | _ => true

/-- R93: the forms that store nothing. -/
def Form.keepsMemory : Form → Bool
  | .ldMR _ | .ldMD8 _ | .ldPtrA _ | .ldMIncA | .ldMDecA | .ldhMA _ | .ldMCA | .ldM16A _ | .ldM16SP _ | .call _ | .callCC _ _
  | .rst _ | .push _ | .cbPrefix _ => false
  | .inc8 o | .dec8 o | .shift _ o | .res _ o | .set _ o => decide (o ≠ .mHL)
  | _ => true

/-- R42: HALT and STOP change the run state. -/
def Form.keepsRunState : Form → Bool
  | .halt | .stop _ => false
  | _ => true

/-- R43: DI and RETI change IME. -/
def Form.keepsIme : Form → Bool
  | .di | .reti => false
  | _ => true

/-- R44: DI and EI change ei_pending. -/
def Form.keepsEiPending : Form → Bool
  | .di | .ei => false
  | _ => true

/-- What a form keeps, whatever it ends in (`execForm_keeps`). -/
def Form.kept (f : Form) : Kept :=
  { flags := f.keepsFlags, memory := f.keepsMemory, runState := f.keepsRunState, ime := f.keepsIme,
    eiPending := f.keepsEiPending }

theorem Form.keepsRunState_eq_false {f : Form} (h : f.keepsRunState = false) : f = .halt ∨ ∃ x, f = .stop x := by
  cases f with
  | halt => exact .inl rfl
  | stop x => exact .inr ⟨x, rfl⟩
  | _ => cases h

theorem Form.keepsIme_eq_false {f : Form} (h : f.keepsIme = false) : f = .di ∨ f = .reti := by
  cases f with
  | di => exact .inl rfl
  | reti => exact .inr rfl
  | _ => cases h

theorem Form.keepsEiPending_eq_false {f : Form} (h : f.keepsEiPending = false) : f = .di ∨ f = .ei := by
  cases f with
  | di => exact .inl rfl
  | ei => exact .inr rfl
  | _ => cases h

end Sys2Proof

namespace Sys2Proof.Machine

/-- The parts that `k` names are as they were. -/
structure Keeps (k : Kept) (s t : State) : Prop where
  flags : k.flags = true → t.regs.f = s.regs.f
  memory : k.memory = true → t.mmu = s.mmu
  runState : k.runState = true → t.runState = s.runState
  ime : k.ime = true → t.ime = s.ime
  eiPending : k.eiPending = true → t.eiPending = s.eiPending

section
variable {k : Kept} {s t u : State}

theorem Keeps.trans (h : Keeps k s t) (h' : Keeps k t u) : Keeps k s u where
  flags x := (h'.flags x).trans (h.flags x)
  memory x := (h'.memory x).trans (h.memory x)
  runState x := (h'.runState x).trans (h.runState x)
  ime x := (h'.ime x).trans (h.ime x)
  eiPending x := (h'.eiPending x).trans (h.eiPending x)

/-! ### Updates -/

/-- An update of the registers other than F, of the clock or of the fault latch. -/
theorem Keeps.of_eq (hf : t.regs.f = s.regs.f) (hm : t.mmu = s.mmu) (hr : t.runState = s.runState) (hi : t.ime = s.ime)
    (he : t.eiPending = s.eiPending) : Keeps k s t := ⟨fun _ => hf, fun _ => hm, fun _ => hr, fun _ => hi, fun _ => he⟩

theorem Keeps.refl (s : State) : Keeps k s s := .of_eq rfl rfl rfl rfl rfl

theorem Keeps.jump (s : State) (a : Word) : Keeps k s (s.jump a) := .of_eq rfl rfl rfl rfl rfl

theorem Keeps.setSP (s : State) (v : Word) : Keeps k s (s.setSP v) := .of_eq rfl rfl rfl rfl rfl

theorem Keeps.set8 (s : State) (x : Reg8) (v : Byte) : Keeps k s (s.set8 x v) := .of_eq (Regs.set8_f ..) rfl rfl rfl rfl

theorem Keeps.set16 (s : State) (p : Pair) (v : Word) : Keeps k s (s.set16 p v) := .of_eq (Regs.set16_f ..) rfl rfl rfl rfl

theorem Keeps.setFlags (hk : k.flags ≠ true) (s : State) (x : Flags) : Keeps k s (s.setFlags x) :=
  ⟨fun h => absurd h hk, fun _ => rfl, fun _ => rfl, fun _ => rfl, fun _ => rfl⟩

theorem Keeps.setStack {p : StackPair} (hk : k.flags = true → p ≠ .af) (s : State) (v : Word) :
    Keeps k s (s.setStack p v) := by
  refine ⟨fun h => ?_, fun _ => rfl, fun _ => rfl, fun _ => rfl, fun _ => rfl⟩
  cases p with
  | af => exact absurd rfl (hk h)
  | _ => rfl

theorem Keeps.setRunState (hk : k.runState ≠ true) (s : State) (r : RunState) : Keeps k s (s.setRunState r) :=
  ⟨fun _ => rfl, fun _ => rfl, fun h => absurd h hk, fun _ => rfl, fun _ => rfl⟩

theorem Keeps.setIme {i e : Bool} (hi : k.ime = true → i = s.ime) (he : k.eiPending = true → e = s.eiPending) :
    Keeps k s (s.setIme i e) := ⟨fun _ => rfl, fun _ => rfl, fun _ => rfl, hi, he⟩

theorem Keeps.withMmu (hk : k.memory ≠ true) (s : State) (m : Mmu) : Keeps k s (s.withMmu m) :=
  ⟨fun _ => rfl, fun h => absurd h hk, fun _ => rfl, fun _ => rfl, fun _ => rfl⟩

theorem Keeps.store (hk : k.memory ≠ true) {a : Word} {v : Byte} (h : s.store a v = .ok t) : Keeps k s t := by
  obtain ⟨m, -, rfl⟩ := State.store_ok h
  exact .withMmu hk s m

theorem Keeps.storeWord (hk : k.memory ≠ true) {a v : Word} (h : s.storeWord a v = .ok t) : Keeps k s t := by
  obtain ⟨m, -, rfl⟩ := State.storeWord_ok h
  exact .withMmu hk s m

theorem Keeps.writeOpnd {o : Opnd8} (hk : k.memory = true → o ≠ .mHL) {v : Byte} (h : s.writeOpnd o v = .ok t) :
    Keeps k s t := by
  cases o with
  | reg r => cases h; exact .set8 s r v
  | mHL => exact .store (fun hm => hk hm rfl) h

theorem Keeps.alu (hk : k.flags ≠ true) (op : AluOp) (s : State) (v : Byte) : Keeps k s (s.alu op v) := by
  unfold State.alu
  simp only
  split
  · exact .setFlags hk s _
  · exact (Keeps.set8 s _ _).trans (.setFlags hk _ _)

/-! ### Bodies -/

/-- A body keeps the parts that `k` names, where it runs. -/
def BodyKeeps (k : Kept) (body : State → Except Fault State) : Prop := ∀ s t, body s = .ok t → Keeps k s t

theorem BodyKeeps.unfailing {g : State → State} (h : ∀ s, Keeps k s (g s)) : BodyKeeps k (unfailing g) := by
  intro s t ht
  cases ht
  exact h s

theorem BodyKeeps.map {body : State → Except Fault State} {g : State → State} (hb : BodyKeeps k body)
    (h : ∀ s, Keeps k s (g s)) : BodyKeeps k fun s => (body s).map g := by
  intro s t ht
  obtain ⟨u, hu, rfl⟩ := map_ok ht
  exact (hb s u hu).trans (h u)

theorem BodyKeeps.loadInto (r : Reg8) (addr : State → Word) : BodyKeeps k (loadInto r addr) := by
  intro s t ht
  obtain ⟨v, -, rfl⟩ := map_ok ht
  exact .set8 s r v

theorem BodyKeeps.storeFrom (hk : k.memory ≠ true) (r : Reg8) (addr : State → Word) : BodyKeeps k (storeFrom r addr) :=
  fun _ _ h => .store hk h

theorem BodyKeeps.push16 (hk : k.memory ≠ true) (v : State → Word) : BodyKeeps k fun s => s.push16 (v s) :=
  fun s _ h => (Keeps.setSP s _).trans (.storeWord hk h)

theorem BodyKeeps.callBody (hk : k.memory ≠ true) (a : Word) : BodyKeeps k (callBody a) :=
  (BodyKeeps.push16 hk _).map fun s => .jump s a

theorem BodyKeeps.pop16 {g : Word × State → State} (h : ∀ v s, Keeps k s (g (v, s))) : BodyKeeps k fun s => s.pop16.map g := by
  intro s t ht
  obtain ⟨⟨v, u⟩, hu, rfl⟩ := map_ok ht
  obtain ⟨-, rfl⟩ := State.pop16_ok hu
  exact (Keeps.setSP s _).trans (h v _)

/-- A body that reads an operand and runs on what it read. -/
theorem BodyKeeps.readOpnd {o : Opnd8} {run : State → Byte → Except Fault State} (h : ∀ v, BodyKeeps k fun s => run s v) :
    BodyKeeps k fun s => (s.readOpnd o).bind (run s) := by
  intro s t ht
  obtain ⟨v, -, hv⟩ := bind_ok ht
  exact h v s t hv

/-! ### Instructions -/

/-- A fault that undoes an instruction changes PC and the fault latch only (R500). -/
theorem execute_keeps {n len cycles : Nat} {body : State → Except Fault State} (h : execute n len cycles body s = .next t)
    (hb : BodyKeeps k body) : Keeps k s t := by
  unfold execute at h
  split at h
  · rename_i u hu
    cases h
    exact ((Keeps.jump s _).trans (hb _ u hu)).trans (.of_eq rfl rfl rfl rfl rfl)
  · cases h
    exact .of_eq rfl rfl rfl rfl rfl

theorem primary_keeps {len cycles : Nat} {body : State → Except Fault State} (h : primary len cycles body s = .next t)
    (hb : BodyKeeps k body) : Keeps k s t := execute_keeps h hb

theorem prefixed_keeps {cycles : Nat} {body : State → Except Fault State} (h : prefixed cycles body s = .next t)
    (hb : BodyKeeps k body) : Keeps k s t := execute_keeps h hb

theorem conditional_keeps {len taken notTaken : Nat} {cc : Cond} {body : State → Except Fault State}
    (h : conditional len taken notTaken cc body s = .next t) (hb : BodyKeeps k body) : Keeps k s t := by
  unfold conditional at h
  split at h
  · exact primary_keeps h hb
  · exact primary_keeps h (.unfailing .refl)

theorem shiftOpnd_keeps {op : ShiftOp} {o : Opnd8} (hf : k.flags ≠ true) (hm : k.memory = true → o ≠ .mHL)
    (h : shiftOpnd op o s = .next t) : Keeps k s t := by
  refine prefixed_keeps h (.readOpnd fun v u w hw => ?_)
  obtain ⟨x, hx, rfl⟩ := map_ok hw
  exact (Keeps.writeOpnd hm hx).trans (.setFlags hf x _)

theorem bitOpnd_keeps {b : Idx8} {o : Opnd8} (hf : k.flags ≠ true) (h : bitOpnd b o s = .next t) : Keeps k s t := by
  refine prefixed_keeps h fun u w hw => ?_
  obtain ⟨v, -, rfl⟩ := map_ok hw
  exact .setFlags hf u _

theorem resOpnd_keeps {b : Idx8} {o : Opnd8} (hm : k.memory = true → o ≠ .mHL) (h : resOpnd b o s = .next t) : Keeps k s t :=
  prefixed_keeps h (.readOpnd fun _ _ _ hw => .writeOpnd hm hw)

theorem setOpnd_keeps {b : Idx8} {o : Opnd8} (hm : k.memory = true → o ≠ .mHL) (h : setOpnd b o s = .next t) : Keeps k s t :=
  prefixed_keeps h (.readOpnd fun _ _ _ hw => .writeOpnd hm hw)

end

/-- Every form keeps what it should, whatever it ends in. -/
theorem execForm_keeps {f : Form} {s t : State} (h : execForm f s = .next t) : Keeps f.kept s t := by
  cases f with
  | nop => exact primary_keeps h (.unfailing .refl)
  | halt | stop _ => exact primary_keeps h (.unfailing fun u => .setRunState Bool.noConfusion u _)
  | di => exact primary_keeps h (.unfailing fun _ => .setIme Bool.noConfusion Bool.noConfusion)
  | ei => exact primary_keeps h (.unfailing fun _ => .setIme (fun _ => rfl) Bool.noConfusion)
  | ldRR _ _ | ldRD8 _ _ =>
    simp only [execForm, ldRegReg, ldRegImm] at h
    exact primary_keeps h (.unfailing fun u => .set8 u _ _)
  | ldRM _ | ldAPtr _ | ldhAM _ | ldAMC | ldAM16 _ => exact primary_keeps h (.loadInto _ _)
  | ldMR _ | ldPtrA _ | ldhMA _ | ldMCA | ldM16A _ => exact primary_keeps h (.storeFrom Bool.noConfusion _ _)
  | ldMD8 x => exact primary_keeps h fun _ _ hw => .store Bool.noConfusion hw
  | ldM16SP x => exact primary_keeps h fun _ _ hw => .storeWord Bool.noConfusion hw
  | ldMIncA | ldMDecA =>
    exact primary_keeps h ((BodyKeeps.storeFrom Bool.noConfusion _ _).map fun u => .set16 u _ _)
  | ldAMInc | ldAMDec => exact primary_keeps h ((BodyKeeps.loadInto _ _).map fun u => .set16 u _ _)
  | ldPairD16 _ _ | inc16 _ | dec16 _ =>
    simp only [execForm, ldPairImm, incPair, decPair] at h
    exact primary_keeps h (.unfailing fun u => .set16 u _ _)
  | ldSPHL => exact primary_keeps h (.unfailing fun u => .setSP u _)
  | alu op _ =>
    simp only [execForm, aluOpnd] at h
    refine primary_keeps h fun u w hw => ?_
    obtain ⟨v, -, rfl⟩ := map_ok hw
    exact .alu Bool.noConfusion op u v
  | aluD8 op x =>
    simp only [execForm, aluImm] at h
    exact primary_keeps h (.unfailing fun u => .alu Bool.noConfusion op u x)
  | inc8 o | dec8 o =>
    simp only [execForm, incOpnd, decOpnd] at h
    exact primary_keeps h (.readOpnd fun _ u _ hw =>
      (Keeps.setFlags Bool.noConfusion u _).trans (.writeOpnd of_decide_eq_true hw))
  | daa | cpl | rlca | rrca | rla | rra =>
    exact primary_keeps h (.unfailing fun u => (Keeps.set8 u _ _).trans (.setFlags Bool.noConfusion _ _))
  | scf | ccf => exact primary_keeps h (.unfailing fun u => .setFlags Bool.noConfusion u _)
  | addHL _ | ldHLSP _ =>
    simp only [execForm, addHLPair] at h
    exact primary_keeps h (.unfailing fun u => (Keeps.set16 u _ _).trans (.setFlags Bool.noConfusion _ _))
  | addSP _ => exact primary_keeps h (.unfailing fun u => (Keeps.setSP u _).trans (.setFlags Bool.noConfusion _ _))
  | jp _ | jpHL | jr _ => exact primary_keeps h (.unfailing fun u => .jump u _)
  | jpCC _ _ | jrCC _ _ => exact conditional_keeps h (.unfailing fun u => .jump u _)
  | call x | rst x => exact primary_keeps h (.callBody Bool.noConfusion _)
  | callCC _ x => exact conditional_keeps h (.callBody Bool.noConfusion _)
  | ret => exact primary_keeps h (.pop16 fun v u => .jump u v)
  | retCC _ => exact conditional_keeps h (.pop16 fun v u => .jump u v)
  | reti => exact primary_keeps h (.pop16 fun v u => (Keeps.jump u v).trans (.setIme Bool.noConfusion fun _ => rfl))
  | push _ =>
    simp only [execForm, pushStep] at h
    exact primary_keeps h (.push16 Bool.noConfusion _)
  | pop p =>
    simp only [execForm, popStep] at h
    exact primary_keeps h (.pop16 fun v u => .setStack of_decide_eq_true u v)
  | shift _ _ => exact shiftOpnd_keeps Bool.noConfusion of_decide_eq_true h
  | bit _ _ => exact bitOpnd_keeps Bool.noConfusion h
  | res _ _ => exact resOpnd_keeps of_decide_eq_true h
  | set _ _ => exact setOpnd_keeps of_decide_eq_true h
  | cbPrefix x =>
    simp only [execForm, cbExecute] at h
    split at h
    · exact shiftOpnd_keeps Bool.noConfusion Bool.noConfusion h
    · exact bitOpnd_keeps Bool.noConfusion h
    · exact resOpnd_keeps Bool.noConfusion h
    · exact setOpnd_keeps Bool.noConfusion h
  | illegal _ => cases h; exact .of_eq rfl rfl rfl rfl rfl

theorem exec_keeps {i : Instr} {s t : State} (h : exec i s = .next t) : Keeps i.form.kept s t := by
  rw [exec_eq_execForm] at h
  exact execForm_keeps h

/-- Settles O39: `exec_keeps`, for F and for the memory. -/
theorem instructionsThatKeepFlagsOrMemory : Obligations.InstructionsThatKeepFlagsOrMemory := by
  intro i s t h
  have hk := exec_keeps h
  generalize i.form = f at hk ⊢
  refine ⟨fun hf => hk.flags ?_, fun hm => hk.memory ?_⟩
  · cases f with
    | alu _ _ | aluD8 _ _ | inc8 _ | dec8 _ | daa | cpl | scf | ccf | rlca | rrca | rla | rra | addHL _ | addSP _ | ldHLSP _
    | shift _ _ | bit _ _ | cbPrefix _ => exact hf.elim
    | pop p =>
      cases p with
      | af => exact hf.elim
      | bc | de | hl => rfl
    | _ => rfl
  · cases f with
    | ldMR _ | ldMD8 _ | ldPtrA _ | ldMIncA | ldMDecA | ldhMA _ | ldMCA | ldM16A _ | ldM16SP _ | call _ | callCC _ _ | rst _
    | push _ | cbPrefix _ => exact hm.elim
    | inc8 o | dec8 o | shift _ o | res _ o | set _ o =>
      cases o with
      | mHL => exact hm.elim
      | reg r => rfl
    | _ => rfl

/-- A row is the one its form names. -/
theorem eq_instr_of_form {i : Instr} {f : Form} (h : i.form = f) : i = f.instr := by
  rw [← h, Instr.instr_form]

/-- Settles O40: `exec_keeps`, for the run state, IME and ei_pending, and which rows have the forms that change each. -/
theorem latchesChangeOnlyByTheirInstructions : Obligations.LatchesChangeOnlyByTheirInstructions := by
  intro i s t h
  have hk := exec_keeps h
  refine ⟨fun hr => ?_, fun hi => ?_, fun he => ?_⟩
  · have hform := Form.keepsRunState_eq_false (Bool.eq_false_iff.2 (mt hk.runState hr))
    exact hform.imp eq_instr_of_form fun ⟨x, hx⟩ => ⟨x, eq_instr_of_form hx⟩
  · have hform := Form.keepsIme_eq_false (Bool.eq_false_iff.2 (mt hk.ime hi))
    exact hform.imp eq_instr_of_form eq_instr_of_form
  · have hform := Form.keepsEiPending_eq_false (Bool.eq_false_iff.2 (mt hk.eiPending he))
    exact hform.imp eq_instr_of_form eq_instr_of_form

end Sys2Proof.Machine
end

section
/-! O36, O37, O51. The fetch: what it answers where the bytes at PC are those of an instruction, and where one of them cannot be read;
and the step around the instruction fetched. -/

namespace Sys2Proof.Machine

/-! ### The bytes at PC (R130) -/

/-- The bytes of a list stand in memory from an address on. -/
def State.HasBytes (s : State) (a : Word) (bytes : List Byte) : Prop :=
  ∀ k (h : k < bytes.length), s.load (a + BitVec.ofNat 16 k) = .ok bytes[k]

theorem State.HasBytes.first {s : State} {a : Word} {b : Byte} {bytes : List Byte} (h : s.HasBytes a (b :: bytes)) :
    s.load a = .ok b := by
  simpa using h 0 (Nat.succ_pos _)

theorem State.HasBytes.second {s : State} {a : Word} {b b1 : Byte} {bytes : List Byte}
    (h : s.HasBytes a (b :: b1 :: bytes)) : s.load (a + 1) = .ok b1 := h 1 (by simp)

theorem State.HasBytes.third {s : State} {a : Word} {b b1 b2 : Byte} {bytes : List Byte}
    (h : s.HasBytes a (b :: b1 :: b2 :: bytes)) : s.load (a + 2) = .ok b2 := h 2 (by simp)

/-- R130: the bytes at PC that decode to an instruction, and to no more, are the instruction fetched. -/
theorem State.fetch_of_decode {s : State} {i : Instr} {bytes : List Byte} (hbytes : s.HasBytes s.regs.pc bytes)
    (hdecode : decode bytes = .ok (i, [])) : s.fetch = .ok i := by
  unfold decode at hdecode
  split at hdecode
  · cases hdecode
  · split at hdecode <;> rename_i hlen <;> cases hdecode
    · simp only [State.fetch, hlen, hbytes.first]
    · simp only [State.fetch, hlen, hbytes.first, hbytes.second]
    · simp only [State.fetch, hlen, hbytes.first, hbytes.second, hbytes.third]

/-- R120, R130: the encoding of a well-formed instruction at PC is that instruction fetched. -/
theorem State.fetch_of_encode {s : State} {i : Instr} (hi : i.wellFormed = true) (hbytes : s.HasBytes s.regs.pc (encode i)) :
    s.fetch = .ok i := by
  have hdecode := decodeInvertsEncode i [] hi
  rw [List.append_nil] at hdecode
  exact State.fetch_of_decode hbytes hdecode

/-! ### The step around the fetch (R130, R500) -/

section
variable {s : State} (hfault : s.fault = none) (hrun : s.runState = .running) (hidle : s.ime = true → s.pending = 0)
include hfault hrun hidle

theorem step_eq_instructionStep : step s = instructionStep s s := by
  have hactive : ¬ (s.ime = true ∧ s.pending ≠ 0) := fun h => h.2 (hidle h.1)
  rw [step_active hfault (.inl hrun), State.awake_running hrun, activeStep, if_neg hactive]

/-- R500: a fetch that faults. -/
theorem step_of_fetch_error {k : Nat} {e : Fault} (hfetch : s.fetch = .error (k, e)) : step s = .next (s.takeFault k e) := by
  rw [step_eq_instructionStep hfault hrun hidle, instructionStep, hfetch]

/-- R130 step 6: what the step adds around the instruction fetched. -/
theorem step_of_fetch {i : Instr} (hfetch : s.fetch = .ok i) : ∃ t, exec i s = .next t ∧ step s = .next (settle s t) := by
  obtain ⟨t, ht, -⟩ := exec_next i s
  refine ⟨t, ht, ?_⟩
  rw [step_eq_instructionStep hfault hrun hidle, instructionStep, hfetch]
  simp only [ht]

end

/-- R500: an instruction that latches a fault changes no run state, so there is none to give back. -/
theorem exec_fault_runState {i : Instr} {s t : State} (h : exec i s = .next t) (hs : s.fault = none) (ht : t.fault ≠ none) :
    t.runState = s.runState := by
  obtain ⟨u, hu, ⟨k, e, -, rfl, -⟩ | heffect⟩ := exec_next i s <;> rw [h] at hu <;> cases hu
  · rfl
  · exact absurd (heffect.fault.trans hs) ht

theorem settle_eq_ite {i : Instr} {s t : State} (h : exec i s = .next t) (hs : s.fault = none) :
    settle s t = if s.eiPending = true ∧ t.eiPending = true ∧ t.fault = none then { t with ime := true, eiPending := false }
      else t := by
  by_cases ht : t.fault = none
  · rw [settle_eq ht]
    exact if_congr (by simp [ht]) rfl rfl
  · obtain ⟨e, he⟩ := Option.ne_none_iff_exists'.1 ht
    simp only [settle, he, reduceCtorEq, and_false, if_false, ← exec_fault_runState h hs ht]
    rfl

/-- Settles O36: what stands at PC is fetched (`State.fetch_of_encode`) and run, and the step settles the EI delay
(`settle_eq_ite`). -/
theorem stepRunsTheDecodedInstruction : Obligations.StepRunsTheDecodedInstruction := by
  intro s i hi hbytes hfault hrun hidle
  obtain ⟨t, ht, hstep⟩ := step_of_fetch hfault hrun hidle (State.fetch_of_encode hi hbytes)
  exact ⟨t, ht, by rw [hstep, settle_eq_ite ht hfault]⟩

/-! ### A fetch that faults (R500, D15, D27) -/

theorem State.takeFault_zero (s : State) (e : Fault) : s.takeFault 0 e = { s with fault := some e } := by
  simp [State.takeFault, State.advance, State.jump]

/-- D27: the bytes after the opcode are read in order, so the fault is that of the first that cannot be read. -/
theorem State.fetch_operand_error {s : State} {op : Byte} (hop : s.load s.regs.pc = .ok op) {k : Nat} (hk : 0 < k)
    (hlen : k < opcodeLength op) (hbad : ¬ s.mmu.readable (s.regs.pc + BitVec.ofNat 16 k))
    (hgood : ∀ j, j < k → s.mmu.readable (s.regs.pc + BitVec.ofNat 16 j)) :
    s.fetch = .error (1, .unmappedRegion (s.regs.pc + BitVec.ofNat 16 k)) := by
  have hfault : s.load (s.regs.pc + BitVec.ofNat 16 k) = .error (.unmappedRegion (s.regs.pc + BitVec.ofNat 16 k)) :=
    Mmu.readByte_unreadable hbad
  obtain h | h | h := opcodeLength_cases op
  · omega
  · obtain rfl : k = 1 := by omega
    have hsecond : s.load (s.regs.pc + 1) = _ := hfault
    simp only [State.fetch, hop, h, hsecond]
  · obtain rfl | rfl : k = 1 ∨ k = 2 := by omega
    · have hsecond : s.load (s.regs.pc + 1) = _ := hfault
      simp only [State.fetch, hop, h, hsecond]
    · obtain ⟨b1, hb1⟩ := Mmu.readByte_readable (hgood 1 (by omega))
      have hsecond : s.load (s.regs.pc + 1) = _ := hb1
      have hthird : s.load (s.regs.pc + 2) = _ := hfault
      simp only [State.fetch, hop, h, hsecond, hthird]

/-- Settles O37: the opcode's read comes first, then those after it (`State.fetch_operand_error`). -/
theorem fetchFaults : Obligations.FetchFaults := by
  intro s hfault hrun hidle
  refine ⟨fun hbad => ?_, fun op hop k hk hlen hbad hgood => ?_⟩
  · have hload : s.load s.regs.pc = .error (.unmappedRegion s.regs.pc) := Mmu.readByte_unreadable hbad
    have hfetch : s.fetch = .error (0, .unmappedRegion s.regs.pc) := by simp only [State.fetch, hload]
    rw [step_of_fetch_error hfault hrun hidle hfetch, State.takeFault_zero]
  · exact step_of_fetch_error hfault hrun hidle (State.fetch_operand_error hop hk hlen hbad hgood)

/-! ### The delay of EI (R324, R571, D11) -/

theorem exec_ei (s : State) : exec .ei s = .next { s.passed 1 1 with eiPending := true } := exec_instr .ei s

theorem exec_di (s : State) : exec .di s = .next { s.passed 1 1 with ime := false, eiPending := false } := exec_instr .di s

/-- R44: an EI pending is pending after any instruction but DI. -/
theorem exec_eiPending {i : Instr} {s t : State} (h : exec i s = .next t) (hs : s.eiPending = true) (hi : i ≠ .di) :
    t.eiPending = true := by
  by_contra ht
  have hchange := (latchesChangeOnlyByTheirInstructions i s t h).2.2 (by simp [hs, ht])
  obtain rfl | rfl := hchange
  · exact hi rfl
  · rw [exec_ei] at h
    cases h
    exact ht rfl

/-- Settles O51: EI leaves itself pending, and the step of the instruction after it settles the delay (O36), with the EI still
pending unless the instruction was DI (`exec_eiPending`). -/
theorem eiTakesEffectOneInstructionLater : Obligations.EiTakesEffectOneInstructionLater := by
  intro s i hfault hrun hime hpending hop hi hbytes
  have hbyte : s.HasBytes s.regs.pc (encode .ei) := by
    intro k hk
    obtain rfl : k = 0 := Nat.lt_one_iff.1 hk
    exact (congrArg s.load (by simp)).trans hop
  obtain ⟨t, ht, hstep⟩ := stepRunsTheDecodedInstruction s .ei rfl hbyte hfault hrun (by simp [hime])
  rw [exec_ei] at ht
  cases ht
  simp only [hpending, Bool.false_eq_true, false_and, if_false] at hstep
  obtain ⟨u, hu, hnext⟩ := stepRunsTheDecodedInstruction { s.passed 1 1 with eiPending := true } i hi hbytes hfault hrun
    (fun h => absurd (hime.symm.trans h) Bool.false_ne_true)
  refine ⟨_, u, hstep, hime, rfl, hu, fun h => ?_, fun hu' hi' => ?_⟩
  · rw [hnext, if_neg]
    rintro ⟨-, he, hnone⟩
    obtain h | rfl := h
    · exact h hnone
    · rw [exec_di] at hu
      cases hu
      cases he
  · rw [hnext, if_pos ⟨rfl, exec_eiPending hu rfl hi', hu'⟩]

end Sys2Proof.Machine
end

section
/-! O45, O49, O50, O59. The step around the instruction: the dispatch of an interrupt, the Halted and the Stopped core, and what the
host sees of a step and of a run. -/

namespace Sys2Proof.Machine

/-! ### Interrupts (R504 to R506, R510) -/

/-- R504: the mask keeps the five interrupt bits. -/
theorem State.pending_getLsbD (s : State) {j : Nat} (hj : j < 5) :
    s.pending.getLsbD j = (s.mmu.ie &&& s.mmu.iflag).getLsbD j := by
  have hmask : ∀ j < 5, (0x1F : Byte).getLsbD j = true := by decide
  rw [State.pending, BitVec.getLsbD_and, hmask j hj, Bool.and_true]

/-- R506: the lowest bit set is served first. -/
theorem lowestBit_eq {p : Byte} {k : Nat} (hk : k < 5) (hset : p.getLsbD k = true) (hlow : ∀ j < k, p.getLsbD j = false) :
    lowestBit p = k := by
  have clear (j : Nat) (hj : j < k) : ¬ p.getLsbD j = true := Bool.eq_false_iff.1 (hlow j hj)
  unfold lowestBit
  match k, hk with
  | 0, _ => rw [if_pos hset]
  | 1, _ => rw [if_neg (clear 0 (by omega)), if_pos hset]
  | 2, _ => rw [if_neg (clear 0 (by omega)), if_neg (clear 1 (by omega)), if_pos hset]
  | 3, _ => rw [if_neg (clear 0 (by omega)), if_neg (clear 1 (by omega)), if_neg (clear 2 (by omega)), if_pos hset]
  | 4, _ =>
    rw [if_neg (clear 0 (by omega)), if_neg (clear 1 (by omega)), if_neg (clear 2 (by omega)), if_neg (clear 3 (by omega))]

theorem ne_zero_of_getLsbD {p : Byte} {k : Nat} (h : p.getLsbD k = true) : p ≠ 0 := by
  rintro rfl
  simp at h

theorem getLsbD_bit {k i : Nat} (hi : i < 8) : (1#8 <<< k).getLsbD i = decide (i = k) := by
  rw [BitVec.getLsbD_shiftLeft, BitVec.getLsbD_one]
  simp only [hi, decide_true, Bool.true_and, Nat.zero_lt_succ]
  by_cases h : i = k
  · simp [h]
  · simp [h]; omega

/-- The mask that clears bit `k` of a byte and no other. -/
theorem getLsbD_clearBit (b : Byte) {k i : Nat} (hi : i < 8) :
    (b &&& ~~~(1#8 <<< k)).getLsbD i = (b.getLsbD i && decide (i ≠ k)) := by
  rw [BitVec.getLsbD_and, BitVec.getLsbD_not, getLsbD_bit hi]
  simp [hi]

theorem writable_ifAddr (m : Mmu) : m.writable ifAddr := fun h => absurd h (by decide)

/-- R510: a pending interrupt with IME set is taken, in a core that is not Stopped. -/
theorem step_interrupt {s : State} (hfault : s.fault = none) (hrun : s.runState ≠ .stopped) (hime : s.ime = true)
    (hpending : s.pending ≠ 0) : step s = interruptStep s s.awake := by
  have hactive : s.runState = .running ∨ (s.runState = .halted ∧ s.pending ≠ 0) := by
    cases hr : s.runState with
    | running => exact .inl rfl
    | halted => exact .inr ⟨rfl, hpending⟩
    | stopped => exact absurd hr hrun
  rw [step_active hfault hactive, activeStep]
  exact if_pos ⟨hime, hpending⟩

/-- R506: the dispatch of interrupt `k`, once IF is stored. -/
theorem State.dispatch_eq {s : State} {k : Nat} {m : Mmu} (hk : lowestBit s.pending = k)
    (hm : s.mmu.StoresByte ifAddr (s.mmu.iflag &&& ~~~(1#8 <<< k)) m) :
    s.dispatch = (((s.setIme false false).withMmu m).push16 s.regs.pc).map fun u => u.jump (vector k) := by
  have hstore := State.store_storesByte (s := s.setIme false false) hm
  simp only [State.dispatch, hk, hstore, Except.bind]

/-- Settles O49: IF is always writable, its store moves no address's being writable, and the push is the one of Laws/Frame. -/
theorem interruptDispatch : Obligations.InterruptDispatch := by
  intro s k hfault hrun hime hk hset hlow sp
  have hset' : s.pending.getLsbD k = true := (s.pending_getLsbD hk).trans hset
  have hlowest : lowestBit s.awake.pending = k :=
    lowestBit_eq hk hset' fun j hj => (s.pending_getLsbD (by omega)).trans (hlow j hj)
  obtain ⟨m1, hm1⟩ := Mmu.storesByte (writable_ifAddr s.mmu) (s.mmu.iflag &&& ~~~(1#8 <<< k))
  have hwritable := Mmu.writable_writeByte hm1.1
  have hdispatch := State.dispatch_eq (s := s.awake) hlowest hm1
  rw [step_interrupt hfault hrun hime (ne_zero_of_getLsbD hset')]
  refine ⟨fun hw hw' => ?_, fun b hb => ?_⟩
  · obtain ⟨m2, hm2⟩ := Mmu.storesWord ((hwritable sp).2 hw) ((hwritable (sp + 1)).2 hw') s.regs.pc
    have hpush := State.push16_storesWord (s := (s.awake.setIme false false).withMmu m1) hm2
    refine ⟨_, m1, m2, fun i hi => getLsbD_clearBit _ hi, hm1, hm2, ?_⟩
    rw [interruptStep, hdispatch, State.awake_regs, hpush]
    rw [← hfault]
    rfl
  · have hpush := State.push16_unwritable (s := (s.awake.setIme false false).withMmu m1) (v := s.regs.pc) (b := b)
      (by simp only [State.withMmu_mmu, hwritable]; exact hb)
    rw [interruptStep, hdispatch, State.awake_regs, hpush]
    exact congrArg _ (s.takeFault_zero _)

/-! ### Halted and Stopped (R321, R325, R326, R507, D13, D14) -/

theorem toNat_mod_32_eq_zero_iff (b : Byte) : b.toNat % 0x20 = 0 ↔ b &&& 0x1F = 0 := by
  revert b; decide

/-- R500, R507: a woken core runs the instruction as a Running one does, and a fault gives the run state back. -/
theorem instructionStep_awake (s : State) :
    ∃ t, instructionStep s.awake s.awake = .next t ∧
      instructionStep s s.awake = .next (if t.fault = none then t else t.setRunState s.runState) := by
  unfold instructionStep
  cases hq : s.awake.fetch with
  | error p => exact ⟨_, rfl, by rw [if_neg (by simp)]; rfl⟩
  | ok i =>
    obtain ⟨t, ht, -⟩ := exec_next i s.awake
    simp only [ht]
    refine ⟨_, rfl, ?_⟩
    rw [settle_fault]
    by_cases hf : t.fault = none
    · rw [if_pos hf, settle_eq hf, settle_eq hf, State.awake_eiPending]
    · obtain ⟨e, he⟩ := Option.ne_none_iff_exists'.1 hf
      rw [if_neg hf]
      simp only [settle, he]
      rfl

/-- Settles O50: the woken step is `instructionStep_awake`. -/
theorem haltedAndStoppedSteps : Obligations.HaltedAndStoppedSteps := by
  intro s
  have hpending : (s.mmu.ie &&& s.mmu.iflag).toNat % 0x20 = 0 ↔ s.pending = 0 := toNat_mod_32_eq_zero_iff _
  rw [ne_eq, hpending]
  refine ⟨fun hf hr hp => step_idle hf hr hp, fun hf hr hp hime => ?_, step_stopped, ?_⟩
  · have hnot : ¬ (s.awake.ime = true ∧ s.awake.pending ≠ 0) := by simp [hime]
    obtain ⟨t, ht, hwoken⟩ := instructionStep_awake s
    refine ⟨t, ?_, ?_⟩
    · rw [← ht]
      exact step_eq_instructionStep (s := s.awake) hf rfl fun h => absurd (hime.symm.trans h) Bool.false_ne_true
    · rw [step_active hf (.inr ⟨hr, hp⟩), activeStep, if_neg hnot, hwoken, hr]
      rfl
  · obtain ⟨_, _, _, r, _, _, _⟩ := s
    cases r <;> rfl

/-! ### What the host sees of a step (R500, R501) -/

theorem State.hostStep_faulted {s : State} {e : Fault} (h : s.fault = some e) :
    s.hostStep = (s, .refused (.faulted e)) := by
  simp only [State.hostStep, step_faulted h]

theorem State.hostStep_fault {s t : State} {e : Fault} (h : step s = .next t) (ht : t.fault = some e) :
    s.hostStep = (t, .fault e) := by
  simp only [State.hostStep, h, ht]

theorem State.hostStep_done {s t : State} (h : step s = .next t) (ht : t.fault = none) :
    s.hostStep = (t, .done (t.clock - s.clock)) := by
  simp only [State.hostStep, h, ht]

/-- R40, R325: a step that completes adds to the clock, but in a Stopped core. -/
theorem step_clock {s t : State} (h : step s = .next t) (ht : t.fault = none) :
    s.clock < t.clock ∨ (s.runState = .stopped ∧ t = s) := by
  obtain ⟨hs, hend⟩ := step_cases h
  obtain hlt | ⟨-, hstopped | hfault⟩ := hend.clock
  · exact .inl hlt
  · rw [step_stopped hs hstopped] at h
    cases h
    exact .inr ⟨hstopped, rfl⟩
  · exact absurd ht hfault

/-! ### The loop of run (R132) -/

/-- A run returns after the step from `s`: it did not complete, the clock has met the target, or the core is Stopped. -/
def RunReturns (target : Nat) (s : State) : Prop :=
  (∀ n, s.hostStep.2 ≠ .done n) ∨ target ≤ s.hostStep.1.clock ∨ s.hostStep.1.runState = .stopped

theorem runStops_iff (target : Nat) (s : State) : runStops target s.hostStep.1 s.hostStep.2 = true ↔ RunReturns target s := by
  unfold runStops RunReturns
  cases s.hostStep.2 <;> simp

theorem runLoop_returns {target : Nat} {s : State} (h : RunReturns target s) (n : Nat) : runLoop target n s = s.hostStep := by
  cases n with
  | zero => rfl
  | succ n => exact if_pos ((runStops_iff target s).2 h)

theorem runLoop_goes_on {target : Nat} {s : State} (h : ¬ RunReturns target s) (n : Nat) :
    runLoop target (n + 1) s = runLoop target n s.hostStep.1 :=
  if_neg (mt (runStops_iff target s).1 h)

/-- A step after which a run goes on completed, and brought the clock nearer to the target. -/
theorem step_of_not_runReturns {target : Nat} {s : State} (h : ¬ RunReturns target s) :
    step s = .next s.hostStep.1 ∧ s.hostStep.1.fault = none ∧ s.hostStep.1.runState ≠ .stopped ∧
      s.clock < s.hostStep.1.clock ∧ s.hostStep.1.clock < target := by
  unfold RunReturns at h
  push Not at h
  obtain ⟨⟨n, hdone⟩, htarget, hrun⟩ := h
  cases hs : s.fault with
  | some e => rw [State.hostStep_faulted hs] at hdone; cases hdone
  | none =>
    obtain ⟨t, ht, -⟩ := step_next hs
    cases hf : t.fault with
    | some e => rw [State.hostStep_fault ht hf] at hdone; cases hdone
    | none =>
      rw [State.hostStep_done ht hf] at htarget hrun ⊢
      obtain hlt | ⟨hstopped, rfl⟩ := step_clock ht hf
      · exact ⟨ht, hf, hrun, hlt, htarget⟩
      · exact absurd hstopped hrun

/-- Log entry 13: the bound of the loop never ends it, so any bound of the clock's distance or more gives one answer. -/
theorem runLoop_fuel {target : Nat} {n m : Nat} {s : State} (hn : target - s.clock ≤ n) (hm : target - s.clock ≤ m) :
    runLoop target n s = runLoop target m s := by
  induction n generalizing m s with
  | zero =>
    by_cases h : RunReturns target s
    · rw [runLoop_returns h, runLoop_returns h]
    · obtain ⟨-, -, -, hlt, htarget⟩ := step_of_not_runReturns h
      omega
  | succ n ih =>
    by_cases h : RunReturns target s
    · rw [runLoop_returns h, runLoop_returns h]
    · obtain ⟨-, -, -, hlt, htarget⟩ := step_of_not_runReturns h
      obtain ⟨m, rfl⟩ : ∃ k, m = k + 1 := ⟨m - 1, by omega⟩
      rw [runLoop_goes_on h, runLoop_goes_on h]
      exact ih (by omega) (by omega)

theorem State.run_returns {target : Nat} {s : State} (h : RunReturns target s) : s.run target = s.hostStep :=
  runLoop_returns h _

theorem State.run_goes_on {target : Nat} {s : State} (h : ¬ RunReturns target s) :
    s.run target = s.hostStep.1.run target := by
  obtain ⟨-, -, -, hlt, htarget⟩ := step_of_not_runReturns h
  obtain ⟨k, hk⟩ : ∃ k, target - s.clock = k + 1 := ⟨target - s.clock - 1, by omega⟩
  rw [State.run, hk, runLoop_goes_on h]
  exact runLoop_fuel (by omega) le_rfl

/-- What holds of the step that a run returns from, and is handed back along the steps before it, holds of the run. -/
theorem State.run_induction {target : Nat} {P : State → State × StepResult → Prop}
    (hreturns : ∀ s, RunReturns target s → P s s.hostStep)
    (hgoes : ∀ s r, ¬ RunReturns target s → P s.hostStep.1 r → P s r) (s : State) : P s (s.run target) := by
  induction hd : target - s.clock using Nat.strongRecOn generalizing s with
  | _ d ih =>
    by_cases h : RunReturns target s
    · rw [State.run_returns h]; exact hreturns s h
    · obtain ⟨-, -, -, hlt, htarget⟩ := step_of_not_runReturns h
      rw [State.run_goes_on h]
      exact hgoes s _ h (ih _ (by omega) _ rfl)

/-- Settles O45: a faulted core refuses its step, and a run of it returns from that step; any other core's step answers
(`step_next`). -/
theorem faultsAreSticky : Obligations.FaultsAreSticky := by
  intro s
  refine ⟨fun e he => ⟨step_faulted he, fun target => ?_⟩, fun hs => (step_next hs).imp fun _ h => h.1, rfl⟩
  have hstep := State.hostStep_faulted he
  rw [State.run_returns (.inl fun n => by rw [hstep]; exact StepResult.noConfusion), hstep]

/-- The three answers of a step (R500, R501). -/
theorem State.hostStep_cases (s : State) :
    (∃ e, s.fault = some e ∧ s.hostStep = (s, .refused (.faulted e))) ∨
    (∃ t e, s.fault = none ∧ t.fault = some e ∧ s.hostStep = (t, .fault e)) ∨
    (∃ t n, s.fault = none ∧ t.fault = none ∧ t.clock = s.clock + n ∧ (n = 0 → s.runState = .stopped) ∧
      s.hostStep = (t, .done n)) := by
  cases hs : s.fault with
  | some e => exact .inl ⟨e, rfl, State.hostStep_faulted hs⟩
  | none =>
    obtain ⟨t, ht, -⟩ := step_next hs
    cases hf : t.fault with
    | some e => exact .inr (.inl ⟨t, e, rfl, hf, State.hostStep_fault ht hf⟩)
    | none =>
      refine .inr (.inr ⟨t, _, rfl, hf, ?_, ?_, State.hostStep_done ht hf⟩)
      · obtain hlt | ⟨-, rfl⟩ := step_clock ht hf <;> omega
      · obtain hlt | ⟨hstopped, -⟩ := step_clock ht hf
        · omega
        · exact fun _ => hstopped

/-- What the answer of a run from `s` says of the state that it ends in. -/
def RunAnswer (target : Nat) (s : State) (r : State × StepResult) : Prop :=
  (r.2 ≠ .done 0 ∨ s.runState = .stopped) ∧
    match r.2 with
    | .done _ => r.1.fault = none ∧ (target ≤ r.1.clock ∨ r.1.runState = .stopped)
    | .fault e => r.1.fault = some e ∧ s.fault = none
    | .refused r' => ∃ e, r' = .faulted e ∧ s.fault = some e ∧ r.1 = s

theorem State.run_answer (target : Nat) (s : State) : RunAnswer target s (s.run target) := by
  refine State.run_induction (P := RunAnswer target) (fun s h => ?_) (fun s r h hr => ?_) s
  · unfold RunReturns at h
    unfold RunAnswer
    obtain ⟨e, hs, hstep⟩ | ⟨t, e, hs, ht, hstep⟩ | ⟨t, n, hs, ht, -, hn, hstep⟩ := s.hostStep_cases <;> rw [hstep] at h ⊢
    · exact ⟨.inl StepResult.noConfusion, e, rfl, hs, rfl⟩
    · exact ⟨.inl StepResult.noConfusion, ht, hs⟩
    · refine ⟨?_, ht, h.resolve_left fun hdone => hdone n rfl⟩
      by_cases hzero : n = 0
      · exact .inr (hn hzero)
      · exact .inl fun h0 => hzero (StepResult.done.inj h0)
  · obtain ⟨hstep, hfault, hrun, -⟩ := step_of_not_runReturns h
    obtain ⟨hzero, hanswer⟩ := hr
    refine ⟨.inl (hzero.resolve_right hrun), ?_⟩
    split at hanswer
    · exact hanswer
    · exact ⟨hanswer.1, (step_cases hstep).1⟩
    · obtain ⟨e, -, he, -⟩ := hanswer
      rw [hfault] at he
      cases he

/-- Settles O59: a step's three answers (`State.hostStep_cases`), the loop unrolled once (`State.run_returns`,
`State.run_goes_on`), and the answer of the run by induction along it (`State.run_answer`). -/
theorem runEndsWithACause : Obligations.RunEndsWithACause := by
  intro s target
  obtain ⟨hzero, hanswer⟩ := s.run_answer target
  refine ⟨fun t ht hf => ?_, fun t e => State.hostStep_fault, fun e => State.hostStep_faulted,
    ⟨State.run_returns, fun h => ⟨State.run_goes_on h, (step_of_not_runReturns h).2.2.2.1⟩⟩, hzero, hanswer⟩
  refine ⟨_, State.hostStep_done ht hf, ?_, fun h => ?_⟩
  · obtain hlt | ⟨-, rfl⟩ := step_clock ht hf <;> omega
  · obtain hlt | ⟨hstopped, -⟩ := step_clock ht hf
    · omega
    · exact hstopped

end Sys2Proof.Machine
end

section
/-! O3, O8, O10, O12. The arithmetic of 40_alu8.md and 41_alu16.md that takes a carry in, corrects decimal digits, steps a pair or
adds a signed offset: each on natural numbers, as the claims write it. -/

namespace Sys2Proof.Machine

/-! ### ADC and SBC (R204, R210) -/

/-- R204: ADC's result and flags, with the carry in read from F. -/
theorem aluResult_adc (s : State) (v : Byte) :
    let sum := s.regs.a.toNat + v.toNat + s.regs.f.toNat / 0x10 % 2
    aluResult .adc s.regs.a v s.flags.c = ⟨BitVec.ofNat 8 sum, ⟨decide (sum % 0x100 = 0), false,
      decide (s.regs.a.toNat % 0x10 + v.toNat % 0x10 + s.regs.f.toNat / 0x10 % 2 > 0xF), decide (sum > 0xFF)⟩⟩ := by
  simp only [aluResult, add8, State.carryBit_flag_c]

/-- R210: SBC's result and flags, on natural numbers, with the carry in read from F. -/
theorem aluResult_sbc (s : State) (v : Byte) :
    let c := s.regs.f.toNat / 0x10 % 2
    let diff := s.regs.a.toNat + 0x200 - v.toNat - c
    aluResult .sbc s.regs.a v s.flags.c = ⟨BitVec.ofNat 8 diff, ⟨decide (diff % 0x100 = 0), true,
      decide (s.regs.a.toNat % 0x10 < v.toNat % 0x10 + c), decide (s.regs.a.toNat < v.toNat + c)⟩⟩ := by
  intro c diff
  have hv := v.isLt
  have hc : c ≤ 1 := Nat.le_of_lt_succ (Nat.mod_lt _ (by decide))
  have hvalue : BitVec.ofInt 8 ((s.regs.a.toNat : Int) - v.toNat - c) = BitVec.ofNat 8 diff := by
    apply BitVec.eq_of_toNat_eq
    rw [BitVec.toNat_ofInt, BitVec.toNat_ofNat]
    omega
  have hz : ((s.regs.a.toNat : Int) - v.toNat - c) % 0x100 = 0 ↔ diff % 0x100 = 0 := by omega
  simp only [aluResult, sub8, State.carryBit_flag_c]
  rw [hvalue, decide_eq_decide.2 hz]

/-- Settles O3: ADC and SBC are ALU rows (`alu_rows`) whose results take the carry in (`aluResult_adc`, `aluResult_sbc`). -/
theorem adcAndSbcTakeTheCarryIn : Obligations.AdcAndSbcTakeTheCarryIn := by
  intro s v
  obtain ⟨hadcReg, hadcHL, hadcFault, hadcD8, hadcCode, hadcCodeD8⟩ :=
    alu_rows (base := 0x88) (imm := 0xCE) rfl rfl (State.advance_alu_tick (by decide) (aluResult_adc s v))
  obtain ⟨hsbcReg, hsbcHL, hsbcFault, hsbcD8, hsbcCode, hsbcCodeD8⟩ :=
    alu_rows (base := 0x98) (imm := 0xDE) rfl rfl (State.advance_alu_tick (by decide) (aluResult_sbc s v))
  exact ⟨fun r hr => ⟨hadcReg r hr, hsbcReg r hr⟩, fun hv => ⟨hadcHL hv, hsbcHL hv⟩,
    fun e he => ⟨hadcFault e he, hsbcFault e he⟩, hadcD8, hsbcD8, hadcCode, hadcCodeD8, hsbcCode, hsbcCodeD8⟩

/-! ### DAA after ADD and SUB (R229) -/

/-- R15: the byte that packs two decimal digits. -/
def bcd (n : Nat) : Byte := BitVec.ofNat 8 (n / 10 * 16 + n % 10)

theorem toNat_bcd {n : Nat} (hn : n < 100) : (bcd n).toNat = n / 10 * 16 + n % 10 := by
  rw [bcd, BitVec.toNat_ofNat]
  omega

/-- R229: DAA after an addition, once it is known which digits need a correction and what the corrected sum packs. -/
theorem daa8_of_sum {a : Byte} {x : Flags} {low high : Bool} {n : Nat} (hx : x.n = false)
    (hlow : (x.h || decide (a.toNat % 0x10 > 9)) = low) (hhigh : (x.c || decide (a.toNat > 0x99)) = high) (hn : n < 100)
    (hvalue : (a.toNat + daaCorrection low high) % 0x100 = n / 10 * 16 + n % 10) :
    daa8 a x = ⟨bcd n, ⟨decide (n = 0), false, false, high⟩⟩ := by
  have hbyte : BitVec.ofNat 8 (a.toNat + daaCorrection low high) = bcd n := by
    apply BitVec.eq_of_toNat_eq
    rw [toNat_bcd hn, BitVec.toNat_ofNat, hvalue]
  have hz : n / 10 * 16 + n % 10 = 0 ↔ n = 0 := by omega
  simp only [daa8_eq, hx, Bool.not_false, Bool.true_and, Bool.false_eq_true, if_false, hlow, hhigh, hbyte, hvalue, hz]

/-- R229: DAA after a subtraction: the flags H and C alone say which digits need a correction. -/
theorem daa8_of_difference {a : Byte} {x : Flags} {n : Nat} (hx : x.n = true) (hn : n < 100)
    (hvalue : (a.toNat + 0x100 - daaCorrection x.h x.c) % 0x100 = n / 10 * 16 + n % 10) :
    daa8 a x = ⟨bcd n, ⟨decide (n = 0), true, false, x.c⟩⟩ := by
  have hbyte : BitVec.ofNat 8 (a.toNat + 0x100 - daaCorrection x.h x.c) = bcd n := by
    apply BitVec.eq_of_toNat_eq
    rw [toNat_bcd hn, BitVec.toNat_ofNat, hvalue]
  have hz : n / 10 * 16 + n % 10 = 0 ↔ n = 0 := by omega
  simp only [daa8_eq, hx, Bool.not_true, Bool.false_and, Bool.or_false, if_true, hbyte, hvalue, hz]

/-- R229: C and the test of A together test the sum before it is cut to a byte. -/
theorem carry_or_cut_gt_iff (n : Nat) : (n > 0xFF ∨ n % 2 ^ 8 > 0x99) ↔ n > 0x99 := by
  omega

/-- R201, R229: the low digits need a correction when they sum past 9, the high ones when the sum passes 99. -/
theorem daa8_add8_bcd {x y : Nat} (hx : x < 100) (hy : y < 100) :
    daa8 (add8 (bcd x) (bcd y) false).value (add8 (bcd x) (bcd y) false).flags =
      ⟨bcd ((x + y) % 100), ⟨decide ((x + y) % 100 = 0), false, false, decide (x + y > 99)⟩⟩ := by
  have hn : (x + y) % 100 < 100 := Nat.mod_lt _ (by decide)
  refine daa8_of_sum (low := decide (x % 10 + y % 10 > 9)) rfl ?_ ?_ hn ?_
  all_goals simp only [add8, carryBit, Bool.false_eq_true, if_false, toNat_bcd hx, toNat_bcd hy, BitVec.toNat_ofNat]
  · rw [← Bool.decide_or, decide_eq_decide]
    omega
  · rw [← Bool.decide_or, decide_eq_decide, carry_or_cut_gt_iff]
    obtain htens | htens := Nat.lt_or_ge (x / 10 + y / 10) 10 <;> omega
  · simp only [daaCorrection, decide_eq_true_eq]
    split <;> split <;> omega

/-- R207, R229: a digit needs a correction exactly when it borrows, which H and C say. -/
theorem daa8_sub8_bcd {x y : Nat} (hx : x < 100) (hy : y < 100) :
    daa8 (sub8 (bcd x) (bcd y) false).value (sub8 (bcd x) (bcd y) false).flags =
      ⟨bcd ((x + 100 - y) % 100), ⟨decide (x = y), true, false, decide (x < y)⟩⟩ := by
  have hn : (x + 100 - y) % 100 < 100 := Nat.mod_lt _ (by decide)
  have hz : (x + 100 - y) % 100 = 0 ↔ x = y := by omega
  have hc : x / 10 * 16 + x % 10 < y / 10 * 16 + y % 10 ↔ x < y := by omega
  rw [← decide_eq_decide.2 hz, ← decide_eq_decide.2 hc]
  simp only [sub8_false, toNat_bcd hx, toNat_bcd hy]
  refine daa8_of_difference rfl hn ?_
  simp only [daaCorrection, decide_eq_true_eq, BitVec.toNat_ofNat]
  split <;> split <;> omega

/-- R229: an operation on A and B that stores its result, then DAA of that result and its flags. -/
theorem exec_alu_daa {op : AluOp} {s : State} {w : Byte} {x : Flags} (hop : op ≠ .cp)
    (hr : daa8 (aluResult op s.regs.a s.regs.b s.flags.c).value (aluResult op s.regs.a s.regs.b s.flags.c).flags = ⟨w, x⟩) :
    ∃ t u, exec (.mkAlu op (.reg .b)) s = .next t ∧ exec .daa t = .next u ∧ u.regs.a = w ∧
      condHolds u.regs.f .c = x.c ∧ condHolds u.regs.f .z = x.z := by
  have halu : (s.advance 1).alu op s.regs.b =
      ((s.advance 1).set8 .a (aluResult op s.regs.a s.regs.b s.flags.c).value).setFlags
        (aluResult op s.regs.a s.regs.b s.flags.c).flags := by
    simp only [State.alu, if_neg hop, State.flags_advance, State.advance_regs]
  have hdaa (t : State) (ht : daa8 t.regs.a t.flags = ⟨w, x⟩) : daaBody t = (t.set8 .a w).setFlags x := by
    simp only [daaBody, ht]
  refine ⟨_, _, exec_mkAlu_ok op (State.readOpnd_reg rfl), exec_daa _, ?_⟩
  rw [← State.holds_eq_condHolds, ← State.holds_eq_condHolds, hdaa, State.flags_tick, State.flags_setFlags]
  · exact ⟨rfl, rfl, rfl⟩
  · rw [State.flags_advance, State.flags_tick, show s.regs.get8 .b = s.regs.b from rfl, halu, State.flags_setFlags]
    exact hr

/-- Settles O8: DAA's correction of a decimal sum (`daa8_add8_bcd`) and of a decimal difference (`daa8_sub8_bcd`). -/
theorem daaMakesDecimalSumsAndDifferences : Obligations.DaaMakesDecimalSumsAndDifferences := by
  intro s x y hx hy digits ha hb
  have hadd := daa8_add8_bcd hx hy
  have hsub := daa8_sub8_bcd hx hy
  rw [show bcd x = s.regs.a from ha.symm, show bcd y = s.regs.b from hb.symm] at hadd hsub
  exact ⟨exec_alu_daa (op := .add) (by decide) hadd, exec_alu_daa (op := .sub) (by decide) hsub⟩

/-! ### INC rr and DEC rr (R261, R262) -/

theorem State.advance_set16_tick (s : State) (len n : Nat) (p : Pair) (v : Word) :
    ((s.advance len).set16 p v).tick n = (s.passed len n).set16 p v := by
  cases p <;> rfl

/-- R261, R262: a pair is stepped by a word, on numbers. -/
theorem primary_stepPair (s : State) (p : Pair) (delta : Word) :
    primary 1 2 (unfailing fun t => t.set16 p (t.regs.get16 p + delta)) s =
      .next ((s.passed 1 2).set16 p (BitVec.ofNat 16 ((s.regs.get16 p).toNat + delta.toNat))) := by
  rw [primary_unfailing, State.advance_set16_tick, State.advance_regs, Regs.get16_withPc, BitVec.add_def]

/-- Settles O10: both step the pair by a word (`primary_stepPair`), DEC rr by -1, which is 0xFFFF modulo 0x10000. -/
theorem incDecPairTouchNoFlag : Obligations.IncDecPairTouchNoFlag := by
  intro s p
  refine ⟨(exec_instr (.inc16 p) s).trans (primary_stepPair s p 1), (exec_instr (.dec16 p) s).trans ?_,
    by cases p <;> rfl, by cases p <;> rfl⟩
  simp only [execForm, decPair, BitVec.sub_eq_add_neg]
  exact primary_stepPair s p (-1)

/-! ### ADD SP,e8 and LD HL,SP+e8 (R264, R362) -/

/-- R9: the signed value of a byte, on the integers. -/
theorem sext16_eq (e : Byte) :
    sext16 e = BitVec.ofInt 16 (if e.toNat < 0x80 then (e.toNat : Int) else e.toNat - 0x100) := by
  have hneg : 2 * e.toNat < 2 ^ 8 ↔ e.toNat < 0x80 := by omega
  rw [sext16, BitVec.signExtend, BitVec.toInt_eq_toNat_cond, if_congr hneg rfl rfl]
  rfl

theorem add_ofInt (w : Word) (i : Int) : w + BitVec.ofInt 16 i = BitVec.ofInt 16 (w.toNat + i) := by
  rw [BitVec.ofInt_add, BitVec.ofInt_natCast, BitVec.ofNat_toNat, BitVec.setWidth_eq]

/-- Settles O12: both write the sum (`sext16_eq`) and the flags of `addSP16`, one to SP and one to HL. -/
theorem signedSpOffsetFlags : Obligations.SignedSpOffsetFlags := by
  intro s e
  refine ⟨(exec_instr (.addSP e) s).trans ?_, (exec_instr (.ldHLSP e) s).trans ?_, rfl, rfl⟩
  · rw [← add_ofInt, ← sext16_eq]
    exact congrArg _ (State.advance_set16_setFlags_tick s 2 4 .sp ..)
  · rw [← add_ofInt, ← sext16_eq]
    exact congrArg _ (State.advance_set16_setFlags_tick s 2 3 .hl ..)

end Sys2Proof.Machine
end

section
/-! O22, O56, O57. The registers and the latches: the pairs as views of their halves, what the system instructions leave, and what
the reset of the host sets. -/

namespace Sys2Proof.Machine

/-! ### Register pairs (R31 to R34) -/

/-- R32, R34: AF with F's low nibble masked, as one mask of the word. -/
theorem append_and_F0 (hi lo : Byte) : (hi ++ (lo &&& 0xF0) : Word) = (hi ++ lo) &&& 0xFFF0 := by
  rw [show (0xFFF0 : Word) = (0xFF : Byte) ++ (0xF0 : Byte) from rfl, BitVec.and_append,
    show hi &&& 0xFF = hi from BitVec.and_allOnes]

/-- R33, R34: a stack pair written is read back, AF with its low nibble cleared. -/
theorem Regs.getStack_setStack (r : Regs) (p : StackPair) (v : Word) :
    (r.setStack p v).getStack p = if p = .af then v &&& 0xFFF0 else v := by
  cases p with
  | bc | de | hl => exact hi8_append_lo8 v
  | af =>
    refine (append_and_F0 (hi8 v) (lo8 v)).trans ?_
    rw [hi8_append_lo8, if_pos rfl]

/-- R33, R34: writing a stack pair with what it holds changes nothing where F's low nibble is 0. -/
theorem Regs.setStack_getStack {r : Regs} (hf : r.f &&& 0x0F = 0) (p : StackPair) : r.setStack p (r.getStack p) = r := by
  cases p with
  | bc => simp only [setStack, getStack, bc, hi8_append, lo8_append]
  | de => simp only [setStack, getStack, de, hi8_append, lo8_append]
  | hl => simp only [setStack, getStack, hl, hi8_append, lo8_append]
  | af => simp only [setStack, getStack, af, hi8_append, lo8_append, and_F0_eq_self hf]

/-- R34: a word with a clear low nibble is not changed by the mask of AF. -/
theorem and_FFF0_eq_self {v : Word} (h : v.toNat % 0x10 = 0) : v &&& 0xFFF0 = v := by
  have hlow : lo8 v &&& 0x0F = 0 := by
    rw [← toNat_mod_16_eq_zero_iff, lo8_eq, BitVec.toNat_ofNat]
    omega
  have hmask := append_and_F0 (hi8 v) (lo8 v)
  rw [hi8_append_lo8, and_F0_eq_self hlow, hi8_append_lo8] at hmask
  exact hmask.symm

/-- Settles O56: a pair is its high byte followed by its low one (`append_eq_ofNat`), and a write reaches its own register only
(`Regs.get8_set8`). -/
theorem pairsAreViewsOfTheirHalves : Obligations.PairsAreViewsOfTheirHalves := by
  intro r v b x
  refine ⟨fun p => Regs.get16_set16 r p v, fun p hp => ?_, Regs.getStack_setStack r .af v,
    fun hv => ?_, append_eq_ofNat .., append_eq_ofNat .., append_eq_ofNat .., append_eq_ofNat .., toNat_append_byte ..,
    Regs.get8_set8_self .., fun y hy => ?_, Regs.set8_f .., Regs.set8_sp .., Regs.set8_pc ..⟩
  · rw [Regs.getStack_setStack, if_neg hp]
  · rw [Regs.getStack_setStack, if_pos rfl, and_FFF0_eq_self hv]
  · rw [Regs.get8_set8, if_neg hy.symm]

/-! ### NOP, HALT, STOP, DI and EI (R320 to R324) -/

/-- Settles O22: none of the five bodies fails, and each changes the run state or the latches only. -/
theorem systemInstructions : Obligations.SystemInstructions := by
  intro s x
  exact ⟨exec_instr .nop s, exec_instr .halt s, exec_instr (.stop x) s, exec_instr .di s, exec_instr .ei s, rfl, rfl, rfl, rfl,
    rfl⟩

/-! ### The reset of the host (R560 to R566) -/

theorem State.hostReset_bios {s : State} (h : s.mmu.bios.isSome = true) : s.hostReset =
    { regs := Regs.zero, mmu := { s.mmu with inBios := true }, clock := 0, runState := .running, ime := false,
      eiPending := false, fault := none } := by
  simp only [State.hostReset, h, if_true]

theorem State.hostReset_noBios {s : State} (h : s.mmu.bios = none) : s.hostReset =
    { regs := Regs.postBios, mmu := { s.mmu with inBios := false }, clock := 0, runState := .running, ime := false,
      eiPending := false, fault := none } := by
  simp only [State.hostReset, h, Option.isSome_none, Bool.false_eq_true, if_false]

/-- Settles O57: the two cases of the reset, and zero RAM for the construction of `State.reset`. -/
theorem resetSetsTheResetState : Obligations.ResetSetsTheResetState := by
  intro s
  exact ⟨State.hostReset_bios, State.hostReset_noBios, rfl, fun a => Iff.rfl, RamInit.zero, rfl⟩

end Sys2Proof.Machine
end

section
/-! O13, O14, O15, O17, O18, O19, O21, O27. The transfers and the stack of 42_control.md: jumps, rows whose body starts with a
push, and a push followed by a pop. -/

namespace Sys2Proof.Machine

/-! ### JP and JR (R281 to R285) -/

theorem exec_mkJpCC (cc : Cond) (a : Word) (s : State) : exec (.mkJpCC cc a) s = conditional 3 4 3 cc (jumpBody a) s :=
  exec_instr (.jpCC cc a) s

theorem exec_mkJrCC (cc : Cond) (e : Byte) (s : State) : exec (.mkJrCC cc e) s = conditional 2 3 2 cc (jumpRelBody e) s :=
  exec_instr (.jrCC cc e) s

/-- R282: the opcode of a JP cc row, from the code of its condition. -/
theorem encode_mkJpCC (cc : Cond) (a : Word) : encode (.mkJpCC cc a) =
    [BitVec.ofNat 8 (0xC2 + 8 * cc.code), BitVec.ofNat 8 a.toNat, BitVec.ofNat 8 (a.toNat / 0x100)] := by
  rw [← withImm16_eq]
  cases cc <;> rfl

/-- Settles O13: JP a16, and JP cc where its condition holds, are one body (`jumpBody`), which cannot fail. -/
theorem absoluteJumps : Obligations.AbsoluteJumps := by
  intro s a cc
  rw [exec_mkJpCC]
  exact ⟨exec_instr (.jp a) s, fun hcc => conditional_taken hcc .., fun hcc => conditional_notTaken hcc ..,
    exec_instr .jpHL s, withImm16_eq 0xC3 a, encode_mkJpCC cc a, rfl⟩

/-- R284: the target of a relative jump, on the integers. -/
theorem primary_jumpRelBody (s : State) (e : Byte) :
    primary 2 3 (jumpRelBody e) s = .next ((s.passed 2 3).jump
      (BitVec.ofInt 16 (s.regs.pc.toNat + 2 + if e.toNat < 0x80 then (e.toNat : Int) else e.toNat - 0x100))) := by
  have htarget : s.regs.pc + 2 + sext16 e =
      BitVec.ofInt 16 (s.regs.pc.toNat + 2 + if e.toNat < 0x80 then (e.toNat : Int) else e.toNat - 0x100) := by
    rw [BitVec.ofInt_add, ← sext16_eq, ← add_ofInt]
    rfl
  rw [← htarget]
  rfl

/-- Settles O14: JR e8, and JR cc where its condition holds, are one body (`primary_jumpRelBody`). -/
theorem relativeJumps : Obligations.RelativeJumps := by
  intro s e cc
  rw [exec_mkJrCC]
  refine ⟨(exec_instr (.jr e) s).trans (primary_jumpRelBody s e), fun hcc => ?_, fun hcc => conditional_notTaken hcc .., rfl,
    by cases cc <;> rfl⟩
  rw [conditional_taken hcc]
  exact primary_jumpRelBody s e

/-! ### Rows whose body starts with a push (R12, R286, R298, R300) -/

/-- R286, R298: a call that stores its return address. -/
theorem primary_callBody_storesWord {s : State} {len : Nat} {m : Mmu}
    (h : s.mmu.StoresWord (s.regs.sp - 2) (s.regs.pc + BitVec.ofNat 16 len) m) (n : Nat) (target : Word) :
    primary len n (callBody target) s =
      .next ((((s.passed len n).setSP (s.regs.sp - 2)).withMmu m).jump target) := by
  have hpush : (s.advance len).push16 (s.advance len).regs.pc = .ok (((s.advance len).setSP (s.regs.sp - 2)).withMmu m) :=
    State.push16_storesWord (s := s.advance len) h
  rw [primary_ok (by rw [callBody, hpush]; rfl)]
  rfl

/-- R286, R500: a call whose push faults is undone. -/
theorem primary_callBody_unwritable {s : State} {b : Word}
    (h : (¬ s.mmu.writable (s.regs.sp - 2) ∧ b = s.regs.sp - 2) ∨
      (s.mmu.writable (s.regs.sp - 2) ∧ ¬ s.mmu.writable (s.regs.sp - 2 + 1) ∧ b = s.regs.sp - 2 + 1)) (len n : Nat)
    (target : Word) : primary len n (callBody target) s = .next (s.takeFault 1 (.unmappedRegion b)) := by
  have hpush := State.push16_unwritable (s := s.advance len) (v := (s.advance len).regs.pc) h
  exact primary_error (by rw [callBody, hpush]; rfl)

theorem exec_call_a16 (a : Word) (s : State) : exec (.call_a16 a) s = primary 3 6 (callBody a) s := exec_instr (.call a) s

theorem exec_mkCallCC (cc : Cond) (a : Word) (s : State) :
    exec (.mkCallCC cc a) s = conditional 3 6 3 cc (callBody a) s :=
  exec_instr (.callCC cc a) s

/-- R287: the opcode of a CALL cc row, from the code of its condition. -/
theorem encode_mkCallCC (cc : Cond) (a : Word) : encode (.mkCallCC cc a) =
    [BitVec.ofNat 8 (0xC4 + 8 * cc.code), BitVec.ofNat 8 a.toNat, BitVec.ofNat 8 (a.toNat / 0x100)] := by
  rw [← withImm16_eq]
  cases cc <;> rfl

/-- Settles O15: CALL, and CALL cc where its condition holds, are one body (`callBody`); not taken, CALL cc does not run it. -/
theorem callsPushTheReturnAddress : Obligations.CallsPushTheReturnAddress := by
  intro s a cc
  rw [exec_call_a16, exec_mkCallCC]
  refine ⟨fun hw hw' => ?_, fun hcc => conditional_notTaken hcc .., fun b hb => ?_, withImm16_eq 0xCD a, encode_mkCallCC cc a⟩
  · obtain ⟨m, hm⟩ := Mmu.storesWord hw hw' (s.regs.pc + 3)
    refine ⟨m, hm, primary_callBody_storesWord hm 6 a, fun hcc => ?_⟩
    rw [conditional_taken hcc]
    exact primary_callBody_storesWord hm 6 a
  · refine ⟨primary_callBody_unwritable hb 3 6 a, fun hcc => ?_⟩
    rw [conditional_taken hcc]
    exact primary_callBody_unwritable hb 3 6 a

theorem exec_mkRst (t : Idx8) (s : State) : exec (.mkRst t) s = rstStep t s := exec_instr (.rst t) s

/-- Settles O18: RST is a call (`callBody`) of one byte to its own address. -/
theorem rstCallsItsFixedAddress : Obligations.RstCallsItsFixedAddress := by
  intro s t
  rw [exec_mkRst]
  refine ⟨fun hw hw' => ?_, fun b hb => primary_callBody_unwritable hb 1 4 (rstTarget t), by cases t <;> rfl⟩
  obtain ⟨m, hm⟩ := Mmu.storesWord hw hw' (s.regs.pc + 1)
  exact ⟨m, hm, primary_callBody_storesWord hm 4 (rstTarget t)⟩

/-- R38: no stack pair holds a part of PC. -/
@[simp] theorem Regs.getStack_withPc (r : Regs) (p : StackPair) (v : Word) : { r with pc := v }.getStack p = r.getStack p := by
  cases p <;> rfl

theorem exec_mkPush (p : StackPair) (s : State) : exec (.mkPush p) s = pushStep p s := exec_instr (.push p) s

/-- R300: a PUSH that stores its pair. -/
theorem exec_mkPush_storesWord {s : State} {p : StackPair} {m : Mmu}
    (h : s.mmu.StoresWord (s.regs.sp - 2) (s.regs.getStack p) m) :
    exec (.mkPush p) s = .next (((s.passed 1 4).setSP (s.regs.sp - 2)).withMmu m) := by
  have hpush : (s.advance 1).push16 ((s.advance 1).regs.getStack p) =
      .ok (((s.advance 1).setSP (s.regs.sp - 2)).withMmu m) := by
    rw [State.advance_regs, Regs.getStack_withPc]
    exact State.push16_storesWord (s := s.advance 1) h
  rw [exec_mkPush, pushStep, primary_ok hpush]
  rfl

/-- Settles O19: a push of the pair, as it was before the fetch (`Regs.getStack_withPc`). -/
theorem pushStoresThePair : Obligations.PushStoresThePair := by
  intro s p
  refine ⟨fun hw hw' => ?_, fun b hb => ?_, by cases p <;> rfl⟩
  · obtain ⟨m, hm⟩ := Mmu.storesWord hw hw' (s.regs.getStack p)
    exact ⟨m, hm, exec_mkPush_storesWord hm⟩
  · rw [exec_mkPush]
    exact primary_error (State.push16_unwritable (s := s.advance 1) hb)

/-! ### LD (a16),SP (R361) -/

theorem exec_ld_ma16_SP (a : Word) (s : State) :
    exec (.ld_ma16_SP a) s = primary 3 5 (fun t => t.storeWord a t.regs.sp) s :=
  exec_instr (.ldM16SP a) s

/-- Settles O27: the row is a store of a word, which completes (`Mmu.writeWord_storesWord`) or faults
(`Mmu.writeWord_unwritable`). -/
theorem storeSpAtAddress : Obligations.StoreSpAtAddress := by
  intro s a
  rw [exec_ld_ma16_SP]
  refine ⟨fun hw hw' => ?_, fun b hb => ?_, withImm16_eq 0x08 a⟩
  · obtain ⟨m, hm⟩ := Mmu.storesWord hw hw' s.regs.sp
    have hstore : (s.advance 3).storeWord a s.regs.sp = .ok ((s.advance 3).withMmu m) := by
      rw [State.storeWord, State.advance_mmu, Mmu.writeWord_storesWord hm]
      rfl
    refine ⟨m, hm, ?_⟩
    rw [primary_ok hstore]
    rfl
  · have hstore : (s.advance 3).storeWord a s.regs.sp = .error (.unmappedRegion b) := by
      rw [State.storeWord, State.advance_mmu, Mmu.writeWord_unwritable hb]
      rfl
    exact primary_error hstore

/-! ### RETI (R297) -/

/-- Settles O17: RETI is a pop (`primary_pop16_bytes`, `primary_pop16_error`) that sets IME after the jump. -/
theorem retiPopsPcAndSetsIme : Obligations.RetiPopsPcAndSetsIme := by
  intro s lo hi e
  have hreti : exec .reti s = primary 1 4 State.returnFromInterrupt s := exec_instr .reti s
  rw [hreti]
  exact ⟨fun hlo hhi => primary_pop16_bytes hlo hhi 1 4 fun (v, t) => (t.jump v).setIme true t.eiPending,
    fun hfault => primary_pop16_error hfault 1 4 _, rfl⟩

/-! ### A push, then a pop (R12) -/

/-- Where a stack word is read back: both its bytes lie above the ROM region and outside the unused range (R83, R87). -/
def StackRoom (a : Word) : Prop :=
  (0x8000 ≤ a.toNat ∧ a.toNat ≤ 0xFE9E) ∨ (0xFF00 ≤ a.toNat ∧ a.toNat ≤ 0xFFFE)

theorem StackRoom.toNat_succ {a : Word} (h : StackRoom a) : (a + 1).toNat = a.toNat + 1 := by
  unfold StackRoom at h
  rw [BitVec.toNat_add]
  exact Nat.mod_eq_of_lt (show a.toNat + 1 < 0x10000 by omega)

/-- R89, R98: with room for it, a word is stored, and both its bytes are read back. -/
theorem StackRoom.storesWord {a : Word} (h : StackRoom a) (m : Mmu) (v : Word) :
    ∃ m', m.StoresWord a v m' ∧ m'.readByte a = .ok (lo8 v) ∧ m'.readByte (a + 1) = .ok (hi8 v) := by
  have hsucc := h.toNat_succ
  unfold StackRoom at h
  obtain ⟨m', hm'⟩ := Mmu.storesWord (m := m) (a := a) (fun hrom => absurd hrom (by omega))
    (fun hrom => absurd hrom (by omega)) v
  obtain ⟨hlo, hhi⟩ := Mmu.readByte_writeWord (Mmu.writeWord_storesWord hm')
  rw [Mmu.readBack_kept (by omega) (by omega)] at hlo hhi
  exact ⟨m', hm', hlo, hhi⟩

/-- R286, R288: CALL, then RET at its target. -/
theorem call_then_ret (s : State) (a : Word) (h : StackRoom (s.regs.sp - 2)) :
    ∃ t u, exec (.call_a16 a) s = .next t ∧ t.regs.pc = a ∧ exec .ret t = .next u ∧
      u.regs = { s.regs with pc := s.regs.pc + 3 } ∧ u.clock = s.clock + 10 ∧
      u.load (s.regs.sp - 2) = .ok (lo8 (s.regs.pc + 3)) ∧ u.load (s.regs.sp - 2 + 1) = .ok (hi8 (s.regs.pc + 3)) := by
  obtain ⟨m, hm, hlo, hhi⟩ := h.storesWord s.mmu (s.regs.pc + 3)
  have hcall := (exec_call_a16 a s).trans (primary_callBody_storesWord hm 6 a)
  have hret := (exec_ret _).trans
    (primary_retBody_bytes (s := (((s.passed 3 6).setSP (s.regs.sp - 2)).withMmu m).jump a) hlo hhi 4)
  rw [hi8_append_lo8] at hret
  refine ⟨_, _, hcall, rfl, hret, ?_, rfl, hlo, hhi⟩
  simp only [State.jump_regs, State.setSP_regs, State.withMmu_regs, BitVec.sub_add_cancel]
  rfl

/-- R300, R301: PUSH of one pair, then POP of another. -/
theorem push_then_pop (s : State) (p q : StackPair) (h : StackRoom (s.regs.sp - 2)) :
    ∃ t u, exec (.mkPush p) s = .next t ∧ exec (.mkPop q) t = .next u ∧
      u.regs = { s.regs with pc := s.regs.pc + 2 }.setStack q (s.regs.getStack p) := by
  obtain ⟨m, hm, hlo, hhi⟩ := h.storesWord s.mmu (s.regs.getStack p)
  have hpop := exec_mkPop_bytes (s := ((s.passed 1 4).setSP (s.regs.sp - 2)).withMmu m) hlo hhi q
  refine ⟨_, _, exec_mkPush_storesWord hm, hpop, ?_⟩
  rw [← State.setStack_append, hi8_append_lo8]
  show { s.regs with sp := s.regs.sp - 2 + 2, pc := s.regs.pc + 1 + 1 }.setStack q _ = _
  rw [BitVec.sub_add_cancel, BitVec.add_assoc]
  rfl

/-- Settles O21: the word pushed is read back (`StackRoom.storesWord`) and SP is as it was. -/
theorem stackRoundTrips : Obligations.StackRoundTrips := by
  intro s a p q low hroom
  constructor
  · obtain ⟨t, u, hcall, hpc, hret, hregs, hclock, hlo, hhi⟩ := call_then_ret s a hroom
    have hsucc : s.regs.sp - 2 + 1 = s.regs.sp - 1 := by bv_omega
    rw [lo8_eq] at hlo
    rw [hi8_eq, hsucc] at hhi
    exact ⟨t, u, hcall, hpc, hret, hregs, hclock, hlo, hhi⟩
  · obtain ⟨t, u, hpush, hpop, hregs⟩ := push_then_pop s p q hroom
    refine ⟨t, u, hpush, hpop, ?_, ?_, fun hpq hf => ?_⟩
    · rw [hregs, Regs.getStack_setStack]
    · rw [hregs, Regs.setStack_sp]
    · rw [hregs, hpq, ← Regs.getStack_withPc s.regs q (s.regs.pc + 2)]
      exact Regs.setStack_getStack (r := { s.regs with pc := s.regs.pc + 2 }) hf q

end Sys2Proof.Machine
end

section
/-! O28, O29, O30, O31. The CB table of 45_cb.md: what the shared bodies leave, in the words of the claims, each operation on
numbers, and the 0xCB row as the row of the byte after it. -/

namespace Sys2Proof.Machine

/-! ### A row that reads an operand and writes it back (R400) -/

/-- R400: what is left to show of a row that replaces its operand's byte `v` by `w`: the body of the row over both kinds of operand,
what else the body does to the state (`after`), and the encoding. -/
theorem replaceOpnd_rows {make : Opnd8 → Instr} {body : Opnd8 → State → Except Fault State} {s : State} {v w : Byte}
    {after : State → State} {base : Nat}
    (hmake : ∀ o, exec (make o) s = prefixed (operandCycles o 2 4) (body o) s)
    (hread : ∀ o, s.readOpnd o = .ok v → body o (s.advance 2) = ((s.advance 2).writeOpnd o w).map after)
    (hfault : ∀ o e, s.readOpnd o = .error e → body o (s.advance 2) = .error e)
    (hafter : ∀ t n, (after t).tick n = after (t.tick n))
    (hcode : ∀ o, encode (make o) = [0xCB, BitVec.ofNat 8 (base + o.code)]) :
    (∀ r, s.regs.get8 r = v → exec (make (.reg r)) s = .next (after ((s.passed 2 2).set8 r w))) ∧
    (s.load s.regs.hl = .ok v → s.mmu.writable s.regs.hl → ∃ m, s.mmu.StoresByte s.regs.hl w m ∧
      exec (make .mHL) s = .next (after ((s.passed 2 4).withMmu m))) ∧
    (∀ e, s.load s.regs.hl = .error e → exec (make .mHL) s = .next (s.takeFault 2 e)) ∧
    (s.load s.regs.hl = .ok v → ¬ s.mmu.writable s.regs.hl →
      exec (make .mHL) s = .next (s.takeFault 2 (.unmappedRegion s.regs.hl))) ∧
    (∀ o, encode (make o) = [0xCB, BitVec.ofNat 8 (base + o.code)]) := by
  simp only [hmake]
  refine ⟨fun r hr => ?_, fun hv hw => ?_, fun e he => prefixed_error (hfault .mHL e he), fun hv hw => ?_, hcode⟩
  · rw [prefixed_ok (hread (.reg r) (State.readOpnd_reg hr)), hafter]
    rfl
  · obtain ⟨m, hm⟩ := Mmu.storesByte hw w
    have hstore : (s.advance 2).writeOpnd .mHL w = .ok ((s.advance 2).withMmu m) :=
      State.store_storesByte (s := s.advance 2) hm
    have hbody := hread .mHL hv
    rw [hstore] at hbody
    refine ⟨m, hm, ?_⟩
    rw [prefixed_ok hbody, hafter]
    rfl
  · have hbody := hread .mHL hv
    rw [State.writeOpnd_mHL_unwritable (s := s.advance 2) hw] at hbody
    exact prefixed_error hbody

/-- R120, R121: a byte of the CB table from its three fields, in the order of the claims. -/
theorem opcodeOf_eq (x y z : Nat) : opcodeOf x y z = BitVec.ofNat 8 (0x40 * x + 8 * y + z) := by
  rw [opcodeOf, Nat.mul_comm x, Nat.mul_comm y]

/-! ### The shifts (R401 to R408) -/

theorem exec_mkShift (op : ShiftOp) (o : Opnd8) (s : State) : exec (.mkShift op o) s = shiftOpnd op o s :=
  exec_instr (.shift op o) s

theorem encode_mkShift (op : ShiftOp) (o : Opnd8) : encode (.mkShift op o) = [0xCB, BitVec.ofNat 8 (8 * op.code + o.code)] := by
  rw [show Instr.mkShift op o = (Form.shift op o).instr from rfl, encode_instr, Form.bytes, opcodeOf_eq, Nat.mul_zero,
    Nat.zero_add]

theorem shiftValue_sla (v : Byte) (c : Bool) :
    shiftValue .sla v c = (BitVec.ofNat 8 (v.toNat * 2), decide (v.toNat / 0x80 = 1)) := by
  revert v c; decide

theorem shiftValue_sra (v : Byte) (c : Bool) :
    shiftValue .sra v c = (BitVec.ofNat 8 (v.toNat / 2 + 0x80 * (v.toNat / 0x80)), decide (v.toNat % 2 = 1)) := by
  revert v c; decide

theorem shiftValue_swap (v : Byte) (c : Bool) :
    shiftValue .swap v c = (BitVec.ofNat 8 (v.toNat % 0x10 * 0x10 + v.toNat / 0x10), false) := by
  revert v c; decide

theorem shiftValue_srl (v : Byte) (c : Bool) :
    shiftValue .srl v c = (BitVec.ofNat 8 (v.toNat / 2), decide (v.toNat % 2 = 1)) := by
  revert v c; decide

/-- R400: what is left to show of a shift: its result and the bit it ejects, and its place in the table. -/
theorem shift_rows {op : ShiftOp} {s : State} {v : Byte} {base value : Nat} {out : Bool} (hbase : base = 8 * op.code)
    (hr : shiftValue op v s.flags.c = (BitVec.ofNat 8 value, out)) :
    (∀ r, s.regs.get8 r = v → exec (.mkShift op (.reg r)) s =
      .next (((s.passed 2 2).set8 r (BitVec.ofNat 8 value)).withF (decide (value % 0x100 = 0)) false false out)) ∧
    (s.load s.regs.hl = .ok v → s.mmu.writable s.regs.hl → ∃ m, s.mmu.StoresByte s.regs.hl (BitVec.ofNat 8 value) m ∧
      exec (.mkShift op .mHL) s =
        .next (((s.passed 2 4).withMmu m).withF (decide (value % 0x100 = 0)) false false out)) ∧
    (∀ e, s.load s.regs.hl = .error e → exec (.mkShift op .mHL) s = .next (s.takeFault 2 e)) ∧
    (s.load s.regs.hl = .ok v → ¬ s.mmu.writable s.regs.hl →
      exec (.mkShift op .mHL) s = .next (s.takeFault 2 (.unmappedRegion s.regs.hl))) ∧
    (∀ o, encode (.mkShift op o) = [0xCB, BitVec.ofNat 8 (base + o.code)]) := by
  subst hbase
  refine replaceOpnd_rows (after := fun t => t.withF (decide (value % 0x100 = 0)) false false out) (exec_mkShift op · s)
    (fun o hv => ?_) (fun o e he => ?_) (fun _ _ => rfl) (encode_mkShift op)
  · have hflags : shift8 op v s.flags.c =
        ⟨BitVec.ofNat 8 value, ⟨decide (value % 0x100 = 0), false, false, out⟩⟩ := by
      simp only [shift8, hr, byte_ofNat_eq_zero_iff]
    simp only [State.readOpnd_advance, hv, Except.bind, State.flags_advance, hflags, State.setFlags_eq_withF]
  · simp only [State.readOpnd_advance, he, Except.bind]

/-- Settles O28: the eight operations are one body (`shift_rows`) over eight functions of the byte and the carry. -/
theorem cbShiftsAndRotates : Obligations.CbShiftsAndRotates := by
  intro s v
  refine ⟨shift_rows rfl (shiftValue_rlc ..), shift_rows rfl (shiftValue_rrc ..), shift_rows rfl ?rl, shift_rows rfl ?rr,
    shift_rows rfl (shiftValue_sla ..), shift_rows rfl (shiftValue_sra ..), shift_rows rfl (shiftValue_swap ..),
    shift_rows rfl (shiftValue_srl ..)⟩
  case rl => rw [shiftValue_rl, State.carryBit_flag_c]
  case rr => rw [shiftValue_rr, State.carryBit_flag_c]

/-! ### BIT (R409) -/

theorem exec_mkBit (b : Idx8) (o : Opnd8) (s : State) : exec (.mkBit b o) s = bitOpnd b o s := exec_instr (.bit b o) s

theorem encode_mkBit (b : Idx8) (o : Opnd8) : encode (.mkBit b o) = [0xCB, BitVec.ofNat 8 (0x40 + 8 * b.num + o.code)] := by
  rw [show Instr.mkBit b o = (Form.bit b o).instr from rfl, encode_instr, Form.bytes, opcodeOf_eq]

theorem not_getLsbD_eq (v : Byte) (k : Nat) : (!v.getLsbD k) = decide (v.toNat / 2 ^ k % 2 = 0) := by
  rw [BitVec.getLsbD, Nat.testBit_eq_decide_div_mod_eq]
  obtain hbit | hbit := Nat.mod_two_eq_zero_or_one (v.toNat / 2 ^ k) <;> simp [hbit]

/-- R409: BIT of an operand that is read. -/
theorem exec_mkBit_ok {s : State} {o : Opnd8} {v : Byte} (h : s.readOpnd o = .ok v) (b : Idx8) :
    exec (.mkBit b o) s = .next ((s.passed 2 (operandCycles o 2 3)).withF (decide (v.toNat / 2 ^ b.num % 2 = 0)) false true
      (decide (s.regs.f.toNat / 0x10 % 2 = 1))) := by
  have hbody : ((s.advance 2).readOpnd o).map (fun x => (s.advance 2).setFlags (bitFlags b x s.flags.c)) =
      .ok ((s.advance 2).setFlags (bitFlags b v s.flags.c)) := by
    rw [State.readOpnd_advance, h]
    rfl
  rw [exec_mkBit, ← not_getLsbD_eq, ← State.flag_c_eq]
  exact (prefixed_ok hbody).trans (congrArg _ (State.advance_setFlags_tick ..))

/-- Settles O29: for both kinds of operand, BIT reads it and writes F only (`exec_mkBit_ok`). -/
theorem cbBitTestsOneBit : Obligations.CbBitTestsOneBit := by
  intro s b v
  refine ⟨fun r hr => exec_mkBit_ok (State.readOpnd_reg hr) b, fun hv => exec_mkBit_ok (o := .mHL) hv b, fun e he => ?_,
    encode_mkBit b⟩
  have hread : (s.advance 2).readOpnd .mHL = .error e := he
  rw [exec_mkBit]
  exact prefixed_error (by rw [hread]; rfl)

/-! ### RES and SET (R410, R411) -/

theorem exec_mkRes (b : Idx8) (o : Opnd8) (s : State) : exec (.mkRes b o) s = resOpnd b o s := exec_instr (.res b o) s

theorem exec_mkSet (b : Idx8) (o : Opnd8) (s : State) : exec (.mkSet b o) s = setOpnd b o s := exec_instr (.set b o) s

theorem encode_mkRes (b : Idx8) (o : Opnd8) : encode (.mkRes b o) = [0xCB, BitVec.ofNat 8 (0x80 + 8 * b.num + o.code)] := by
  rw [show Instr.mkRes b o = (Form.res b o).instr from rfl, encode_instr, Form.bytes, opcodeOf_eq]

theorem encode_mkSet (b : Idx8) (o : Opnd8) : encode (.mkSet b o) = [0xCB, BitVec.ofNat 8 (0xC0 + 8 * b.num + o.code)] := by
  rw [show Instr.mkSet b o = (Form.set b o).instr from rfl, encode_instr, Form.bytes, opcodeOf_eq]

/-- R410: a byte with bit `k` 0 and its other bits those of `v`. -/
theorem eq_clearBit {v w : Byte} {k : Nat} (hk : w.getLsbD k = false)
    (h : ∀ i < 8, i ≠ k → w.getLsbD i = v.getLsbD i) : w = v &&& ~~~(1#8 <<< k) := by
  apply BitVec.eq_of_getLsbD_eq
  intro i hi
  rw [getLsbD_clearBit v hi]
  by_cases hik : i = k
  · simp [hik, hk]
  · simp [hik, h i hi hik]

/-- R411: a byte with bit `k` 1 and its other bits those of `v`. -/
theorem eq_setBit {v w : Byte} {k : Nat} (hk : w.getLsbD k = true)
    (h : ∀ i < 8, i ≠ k → w.getLsbD i = v.getLsbD i) : w = v ||| (1#8 <<< k) := by
  apply BitVec.eq_of_getLsbD_eq
  intro i hi
  rw [BitVec.getLsbD_or, getLsbD_bit hi]
  by_cases hik : i = k
  · simp [hik, hk]
  · simp [hik, h i hi hik]

/-- R410, R411: a body that reads the operand, changes its byte and writes it back, flags untouched. -/
theorem changeByte_rows {make : Opnd8 → Instr} {g : Byte → Byte} {s : State} {v : Byte} {base : Nat}
    (hmake : ∀ o, exec (make o) s =
      prefixed (operandCycles o 2 4) (fun t => (t.readOpnd o).bind fun x => t.writeOpnd o (g x)) s)
    (hcode : ∀ o, encode (make o) = [0xCB, BitVec.ofNat 8 (base + o.code)]) :
    (∀ r, s.regs.get8 r = v → exec (make (.reg r)) s = .next ((s.passed 2 2).set8 r (g v))) ∧
    (s.load s.regs.hl = .ok v → s.mmu.writable s.regs.hl → ∃ m, s.mmu.StoresByte s.regs.hl (g v) m ∧
      exec (make .mHL) s = .next ((s.passed 2 4).withMmu m)) ∧
    (∀ e, s.load s.regs.hl = .error e → exec (make .mHL) s = .next (s.takeFault 2 e)) ∧
    (s.load s.regs.hl = .ok v → ¬ s.mmu.writable s.regs.hl →
      exec (make .mHL) s = .next (s.takeFault 2 (.unmappedRegion s.regs.hl))) ∧
    (∀ o, encode (make o) = [0xCB, BitVec.ofNat 8 (base + o.code)]) := by
  refine replaceOpnd_rows (after := id) hmake (fun o hv => ?_) (fun o e he => ?_) (fun _ _ => rfl) hcode
  · rw [State.readOpnd_advance, hv, Except.map_id]
    rfl
  · rw [State.readOpnd_advance, he]
    rfl

/-- Settles O30: eight bits determine the byte written (`eq_setBit`, `eq_clearBit`), and both rows change a byte. -/
theorem cbResAndSetWriteOneBit : Obligations.CbResAndSetWriteOneBit := by
  intro s b v w bit hbit hothers
  cases bit with
  | true =>
    rw [eq_setBit hbit hothers]
    exact changeByte_rows (make := .mkSet b) (exec_mkSet b · s) (encode_mkSet b)
  | false =>
    rw [eq_clearBit hbit hothers]
    exact changeByte_rows (make := .mkRes b) (exec_mkRes b · s) (encode_mkRes b)

/-! ### The 0xCB row (R133, R134) -/

theorem exec_cb_prefix (cb : Byte) (s : State) : exec (.cb_prefix cb) s = execForm (cbForm cb) s :=
  (exec_instr (.cbPrefix cb) s).trans (cbExecute_eq cb s)

/-- R133: the 0xCB row, for the instruction whose encoding is 0xCB and the byte. -/
theorem cb_prefix_row {f : Form} {cb : Byte} {n : Nat} (hf : ∀ x, f ≠ .cbPrefix x)
    (hcode : encode f.instr = [0xCB, BitVec.ofNat 8 n]) (hn : cb.toNat = n) (b2 : Byte) (s : State) :
    decode3 0xCB cb b2 = f.instr ∧ exec (.cb_prefix cb) s = exec f.instr s := by
  subst hn
  rw [encode_instr, BitVec.ofNat_toNat, BitVec.setWidth_eq] at hcode
  have hdecode : decode [0xCB, cb] = .ok ((cbForm cb).instr, []) := rfl
  have hback := Form.decode_bytes hf []
  rw [hcode, List.append_nil, hdecode, Except.ok.injEq, Prod.mk.injEq] at hback
  obtain ⟨hinstr, -⟩ := hback
  rw [← hinstr, exec_cb_prefix, exec_instr]
  exact ⟨rfl, rfl⟩

/-- A CB row completes: it latches no fault, PC is two on, and it takes at least 2 M-cycles. -/
def CompletesCb (s : State) (out : Host.Outcome State Fault Refusal) : Prop :=
  ∃ t, out = .next t ∧ t.fault = none ∧ t.regs.pc = s.regs.pc + 2 ∧ 2 ≤ t.clock - s.clock

theorem two_le_operandCycles (o : Opnd8) {n : Nat} (hn : 2 ≤ n) : 2 ≤ operandCycles o 2 n := by
  cases o with
  | reg r => exact Nat.le_refl 2
  | mHL => exact hn

/-- R11: with the byte at HL readable, every operand is read. -/
theorem State.readOpnd_of_readable {s : State} (h : ∃ v, s.load s.regs.hl = .ok v) (o : Opnd8) :
    ∃ v, s.readOpnd o = .ok v := by
  cases o with
  | reg r => exact ⟨s.regs.get8 r, rfl⟩
  | mHL => exact h

/-- R11: with HL writable, every operand is written, and the write changes neither PC, the clock nor the fault latch. -/
theorem State.writeOpnd_of_writable {s : State} (h : s.mmu.writable s.regs.hl) (o : Opnd8) (w : Byte) :
    ∃ t, s.writeOpnd o w = .ok t ∧ t.fault = s.fault ∧ t.regs.pc = s.regs.pc ∧ t.clock = s.clock := by
  cases o with
  | reg r => exact ⟨s.set8 r w, rfl, rfl, Regs.set8_pc .., rfl⟩
  | mHL =>
    obtain ⟨m, hm⟩ := Mmu.storesByte h w
    exact ⟨s.withMmu m, State.store_storesByte hm, rfl, rfl, rfl⟩

/-- R400: a row that reads its operand, writes it back and changes nothing but F besides. -/
theorem replaceOpnd_completes {s : State} {o : Opnd8} {body : State → Except Fault State} {g : Byte → Byte}
    {after : Byte → State → State} (hs : s.fault = none) (hread : ∃ v, s.load s.regs.hl = .ok v)
    (hwrite : s.mmu.writable s.regs.hl)
    (hbody : ∀ v, (s.advance 2).readOpnd o = .ok v → body (s.advance 2) = ((s.advance 2).writeOpnd o (g v)).map (after v))
    (hafter : ∀ v t, (after v t).fault = t.fault ∧ (after v t).regs.pc = t.regs.pc ∧ (after v t).clock = t.clock) :
    CompletesCb s (prefixed (operandCycles o 2 4) body s) := by
  obtain ⟨v, hv⟩ := State.readOpnd_of_readable (s := s.advance 2) hread o
  obtain ⟨t, ht, hfault, hpc, hclock⟩ := State.writeOpnd_of_writable (s := s.advance 2) hwrite o (g v)
  obtain ⟨hfault', hpc', hclock'⟩ := hafter v t
  have hrun := hbody v hv
  rw [ht] at hrun
  refine ⟨_, prefixed_ok hrun, ?_, ?_, ?_⟩
  · exact hfault'.trans (hfault.trans hs)
  · exact hpc'.trans hpc
  · rw [State.tick_clock, hclock', hclock, State.advance_clock, Nat.add_sub_cancel_left]
    exact two_le_operandCycles o (by decide)

/-- R400, R409: with the byte at HL readable and writable, every row of the CB table completes. -/
theorem cbExecute_completes {s : State} (cb : Byte) (hs : s.fault = none) (hread : ∃ v, s.load s.regs.hl = .ok v)
    (hwrite : s.mmu.writable s.regs.hl) : CompletesCb s (cbExecute cb s) := by
  have hchange {o : Opnd8} {g : Byte → Byte} : CompletesCb s
      (prefixed (operandCycles o 2 4) (fun t => (t.readOpnd o).bind fun x => t.writeOpnd o (g x)) s) := by
    refine replaceOpnd_completes (g := g) (after := fun _ => id) hs hread hwrite (fun v hv => ?_) fun _ _ => ⟨rfl, rfl, rfl⟩
    rw [hv, Except.map_id]
    rfl
  unfold cbExecute
  split
  case h_1 =>
    refine replaceOpnd_completes (g := fun v => (shift8 (fieldY cb).shiftOp v s.flags.c).value)
      (after := fun v t => t.setFlags (shift8 (fieldY cb).shiftOp v s.flags.c).flags) hs hread hwrite (fun v hv => ?_)
      fun _ _ => ⟨rfl, rfl, rfl⟩
    rw [hv]
    rfl
  case h_2 =>
    obtain ⟨v, hv⟩ := State.readOpnd_of_readable hread (fieldZ cb).opnd
    rw [← exec_mkBit]
    refine ⟨_, exec_mkBit_ok hv _, hs, rfl, ?_⟩
    exact Nat.le_sub_of_add_le' (Nat.add_le_add_left (two_le_operandCycles _ (by decide)) _)
  case h_3 => exact hchange
  case h_4 => exact hchange

/-- Settles O31: the 0xCB row is that of the byte after it (`cb_prefix_row`), and every such row completes
(`cbExecute_completes`). -/
theorem cbPrefixRunsTheCbTable : Obligations.CbPrefixRunsTheCbTable := by
  intro s cb b2 i
  refine ⟨?shift, ?bit, ?res, ?set, fun hs hread hwrite => ?completes⟩
  case shift =>
    rintro op o hcb rfl
    exact cb_prefix_row (f := .shift op o) nofun (encode_mkShift op o) hcb b2 s
  case bit =>
    rintro b o hcb rfl
    exact cb_prefix_row (f := .bit b o) nofun (encode_mkBit b o) hcb b2 s
  case res =>
    rintro b o hcb rfl
    exact cb_prefix_row (f := .res b o) nofun (encode_mkRes b o) hcb b2 s
  case set =>
    rintro b o hcb rfl
    exact cb_prefix_row (f := .set b o) nofun (encode_mkSet b o) hcb b2 s
  case completes =>
    rw [show exec (.cb_prefix cb) s = cbExecute cb s from exec_instr (.cbPrefix cb) s]
    exact cbExecute_completes cb hs hread hwrite

end Sys2Proof.Machine
end
